-- ==== Sys2Proof/Word.lean ====
section
/-! DEFINITION. The widths of the hardware (spec 00_scope.md rule R4: XLEN 8, ALEN 16). -/

namespace Sys2Proof

/-- A data byte: XLEN = 8 bits (R4). -/
abbrev Byte := BitVec 8

/-- An address, a program counter or a stack pointer: ALEN = 16 bits (R4). -/
abbrev Word := BitVec 16

end Sys2Proof
end

