-- ==== Sys2Proof/Machine/Bits.lean ====
section
/-! DEFINITION. Bytes and words: the concatenation {hi, lo} and its halves (spec 00_scope.md, Notation; 10_state.md R13;
20_memory.md R32). -/

namespace Sys2Proof.Machine

/-- {hi, lo}: `hi` in the high bits. -/
def joinBytes (hi lo : Byte) : Word := hi ++ lo

/-- v[15:8]. -/
def highByte (v : Word) : Byte := v.extractLsb' 8 8

/-- v[7:0]. -/
def lowByte (v : Word) : Byte := v.extractLsb' 0 8

/-- {hi, lo} of a 7-bit and a 1-bit field, for a rotate to the left (45_rotate.md). -/
def joinLow (hi : BitVec 7) (lo : Bool) : Byte := hi ++ BitVec.ofBool lo

/-- {hi, lo} of a 1-bit and a 7-bit field, for a rotate to the right (45_rotate.md). -/
def joinHigh (hi : Bool) (lo : BitVec 7) : Byte := BitVec.ofBool hi ++ lo

/-- popcount8 of 00_scope.md, Notation: the number of 1 bits among the eight bits of a byte. -/
def popcount8 (v : Byte) : Nat :=
  (v.getLsbD 0).toNat + (v.getLsbD 1).toNat + (v.getLsbD 2).toNat + (v.getLsbD 3).toNat
    + (v.getLsbD 4).toNat + (v.getLsbD 5).toNat + (v.getLsbD 6).toNat + (v.getLsbD 7).toNat

end Sys2Proof.Machine
end

