-- ==== Sys2Proof/Config.lean ====
section
/-! DEFINITION. The parameters of spec 00_scope.md rule R4 that fix a launch of the machine: the size of memory and the values
`State.reset` takes for what the spec leaves OPEN. The tables LEN and CYCLES stand in Machine/Tables.lean and the default
DAA_FN in Machine/Flags.lean. -/

namespace Sys2Proof.Config

/-- MEMSIZE of R4: 65536 bytes. -/
def memSize : Nat := 65536

/-- The value `State.reset` gives every register cell. DESIGN CHOICE, unsafe (log entry 1): the spec leaves RESET_REG open
(10_state.md R24). `hostReset` takes any eight bytes instead. -/
def resetRegister : Byte := 0

/-- The value `State.reset` gives SP. DESIGN CHOICE, unsafe (log entry 1): the spec leaves RESET_SP open (R24). -/
def resetSp : Word := 0

/-- What an address that memory does not list reads as. DESIGN CHOICE, unsafe (log entry 2): the spec leaves MEM0 open
(70_reset_and_hazards.md R171). Every image of 65536 bytes is some list, so a statement over all memories is one over all
images. -/
def unlistedByte : Byte := 0

end Sys2Proof.Config
end

