-- ==== Sys2Proof/Machine/State.lean ====
section
/-! DEFINITION. The state of the machine (10_state.md), as plain data, and its value right after reset. -/

namespace Sys2Proof.Machine

/-- The register file: eight 8-bit cells (10_state.md R10, R11). `cell6` is the unnamed cell r[6], which no instruction reads
or writes (R12). -/
structure Regs where
  b : Byte
  c : Byte
  d : Byte
  e : Byte
  h : Byte
  l : Byte
  cell6 : Byte
  a : Byte
deriving DecidableEq, Repr

/-- The 65536 cells of memory (10_state.md R20) as the cells that differ from what an unlisted address reads as, addresses
strictly rising. -/
abbrev Memory := List Host.Cell

/-- The two output lines of the tick just performed (49_step_scheduler.md R143, R150; 48_undefined_opcode.md R139 a). The
model's own field: the spec lists them as outputs, not as state (log entry 4). -/
structure Outputs where
  fetched : Bool
  undef : Bool
deriving DecidableEq, Repr

/-- The whole state of the block (10_state.md, opening table), with the output lines beside it. -/
structure State where
  regs : Regs      -- r[0..7], R10 to R14
  f : Byte         -- the flag byte F, R15 to R17
  pc : Word        -- PC, R18
  sp : Word        -- SP, R19
  mem : Memory     -- Mem, R20
  cnt : Int        -- the signed busy-cycle counter, R21 (log entry 3)
  ud : Bool        -- the undefined-opcode latch UD, R22
  out : Outputs    -- the outputs of the last tick
deriving DecidableEq, Repr

/-- Why a run is given up. No step of the machine raises one: the tick is total (48_undefined_opcode.md R141). -/
inductive Fault where
  /-- The fault reading of UndefinedOpcode (48_undefined_opcode.md R140), raised by `Safety.checkedStep` once UD is set and
  never by `step`. Safe: it stops where the block goes on. -/
  | undefinedOpcode
deriving DecidableEq, Repr

/-- Why an instruction has no meaning. Every instruction has one, so no arm of `exec` raises it. -/
inductive Refusal where
  /-- Raised by an arm of `exec` for an instruction that is not modelled; there is none. Safe. -/
  | notModelled (mnemonic : String)
deriving DecidableEq, Repr

/-- The machine right after reset (10_state.md R24): PC = 0, F = 0x02, cnt = 0, UD = 0. Registers, SP and memory, which the spec
leaves open, are at the values of Config (log entries 1 and 2). -/
def State.reset : State where
  regs :=
    { b := Config.resetRegister, c := Config.resetRegister, d := Config.resetRegister, e := Config.resetRegister
      h := Config.resetRegister, l := Config.resetRegister, cell6 := Config.resetRegister, a := Config.resetRegister }
  f := 0x02
  pc := 0x0000
  sp := Config.resetSp
  mem := []
  cnt := 0
  ud := false
  out := { fetched := false, undef := false }

end Sys2Proof.Machine
end

