-- ==== Sys2Proof/Machine/Tables.lean ====
section
/-! DEFINITION. The dispatch multiplexer's tables over the 256 opcode bytes (30_encoding.md R50, R53; 49_step_scheduler.md
R147): LEN, CYCLES and which bytes have a handler, one row of sixteen per high nibble, as the opcode map lists them. -/

namespace Sys2Proof.Machine

/-- The entry of a table of sixteen rows of sixteen for an opcode byte: the row of its high nibble, the column of its low
nibble. -/
def tableAt {α : Type} (table : List (List α)) (op : Byte) (other : α) : α :=
  (table.getD (op.toNat / 16) []).getD (op.toNat % 16) other

/-- LEN, opcode bytes 0x00 to 0x0F. -/
def lenRow0 : List Nat :=
  [1, 1, 1, 1, 1, 1, 1, 1, 1, 1, 1, 1, 1, 1, 1, 1]

/-- LEN, opcode bytes 0x10 to 0x1F. -/
def lenRow1 : List Nat :=
  [1, 1, 1, 1, 1, 1, 1, 1, 1, 1, 1, 1, 1, 1, 1, 1]

/-- LEN, opcode bytes 0x20 to 0x2F. -/
def lenRow2 : List Nat :=
  [1, 1, 3, 1, 1, 1, 1, 1, 1, 1, 3, 1, 1, 1, 1, 1]

/-- LEN, opcode bytes 0x30 to 0x3F. -/
def lenRow3 : List Nat :=
  [1, 1, 3, 1, 1, 1, 2, 1, 1, 1, 3, 1, 1, 1, 1, 1]

/-- LEN, opcode bytes 0x40 to 0x4F. -/
def lenRow4 : List Nat :=
  [1, 1, 1, 1, 1, 1, 1, 1, 1, 1, 1, 1, 1, 1, 1, 1]

/-- LEN, opcode bytes 0x50 to 0x5F. -/
def lenRow5 : List Nat :=
  [1, 1, 1, 1, 1, 1, 1, 1, 1, 1, 1, 1, 1, 1, 1, 1]

/-- LEN, opcode bytes 0x60 to 0x6F. -/
def lenRow6 : List Nat :=
  [1, 1, 1, 1, 1, 1, 1, 1, 1, 1, 1, 1, 1, 1, 1, 1]

/-- LEN, opcode bytes 0x70 to 0x7F. -/
def lenRow7 : List Nat :=
  [1, 1, 1, 1, 1, 1, 1, 1, 1, 1, 1, 1, 1, 1, 1, 1]

/-- LEN, opcode bytes 0x80 to 0x8F. -/
def lenRow8 : List Nat :=
  [1, 1, 1, 1, 1, 1, 1, 1, 1, 1, 1, 1, 1, 1, 1, 1]

/-- LEN, opcode bytes 0x90 to 0x9F. -/
def lenRow9 : List Nat :=
  [1, 1, 1, 1, 1, 1, 1, 1, 1, 1, 1, 1, 1, 1, 1, 1]

/-- LEN, opcode bytes 0xA0 to 0xAF. -/
def lenRowA : List Nat :=
  [1, 1, 1, 1, 1, 1, 1, 1, 1, 1, 1, 1, 1, 1, 1, 1]

/-- LEN, opcode bytes 0xB0 to 0xBF. -/
def lenRowB : List Nat :=
  [1, 1, 1, 1, 1, 1, 1, 1, 1, 1, 1, 1, 1, 1, 1, 1]

/-- LEN, opcode bytes 0xC0 to 0xCF. -/
def lenRowC : List Nat :=
  [1, 1, 1, 3, 1, 1, 2, 1, 1, 1, 1, 1, 1, 1, 2, 1]

/-- LEN, opcode bytes 0xD0 to 0xDF. -/
def lenRowD : List Nat :=
  [1, 1, 1, 1, 1, 1, 2, 1, 1, 1, 1, 1, 1, 1, 2, 1]

/-- LEN, opcode bytes 0xE0 to 0xEF. -/
def lenRowE : List Nat :=
  [1, 1, 1, 1, 1, 1, 2, 1, 1, 1, 1, 1, 1, 1, 2, 1]

/-- LEN, opcode bytes 0xF0 to 0xFF. -/
def lenRowF : List Nat :=
  [1, 1, 1, 1, 1, 1, 2, 1, 1, 1, 1, 1, 1, 1, 2, 1]

/-- LEN of 30_encoding.md R50 over all opcode bytes; the fallback's UNDEF_LEN is 1 (48_undefined_opcode.md R138). -/
def lenTable : List (List Nat) :=
  [lenRow0, lenRow1, lenRow2, lenRow3, lenRow4, lenRow5, lenRow6, lenRow7, lenRow8, lenRow9, lenRowA, lenRowB, lenRowC, lenRowD, lenRowE, lenRowF]

/-- LEN[op]: the instruction's length in bytes, from the opcode byte alone (R45, R52). -/
def lenOf (op : Byte) : Nat := tableAt lenTable op 1

/-- CYCLES, opcode bytes 0x00 to 0x0F. -/
def cycRow0 : List Nat :=
  [4, 4, 4, 4, 4, 4, 4, 4, 4, 4, 4, 4, 4, 4, 4, 4]

/-- CYCLES, opcode bytes 0x10 to 0x1F. -/
def cycRow1 : List Nat :=
  [4, 4, 4, 4, 4, 4, 4, 4, 4, 4, 4, 4, 4, 4, 4, 4]

/-- CYCLES, opcode bytes 0x20 to 0x2F. -/
def cycRow2 : List Nat :=
  [4, 4, 16, 4, 4, 4, 4, 4, 4, 4, 16, 4, 4, 4, 4, 4]

/-- CYCLES, opcode bytes 0x30 to 0x3F. -/
def cycRow3 : List Nat :=
  [4, 4, 13, 4, 4, 4, 10, 4, 4, 4, 13, 4, 4, 4, 4, 4]

/-- CYCLES, opcode bytes 0x40 to 0x4F. -/
def cycRow4 : List Nat :=
  [4, 4, 4, 4, 4, 4, 4, 4, 4, 4, 4, 4, 4, 4, 4, 4]

/-- CYCLES, opcode bytes 0x50 to 0x5F. -/
def cycRow5 : List Nat :=
  [4, 4, 4, 4, 4, 4, 4, 4, 4, 4, 4, 4, 4, 4, 4, 4]

/-- CYCLES, opcode bytes 0x60 to 0x6F. -/
def cycRow6 : List Nat :=
  [4, 4, 4, 4, 4, 4, 4, 4, 4, 4, 4, 4, 4, 4, 4, 4]

/-- CYCLES, opcode bytes 0x70 to 0x7F. -/
def cycRow7 : List Nat :=
  [4, 4, 4, 4, 4, 4, 4, 4, 4, 4, 4, 4, 4, 4, 4, 4]

/-- CYCLES, opcode bytes 0x80 to 0x8F. -/
def cycRow8 : List Nat :=
  [7, 7, 7, 7, 7, 7, 7, 7, 7, 7, 7, 7, 7, 7, 7, 7]

/-- CYCLES, opcode bytes 0x90 to 0x9F. -/
def cycRow9 : List Nat :=
  [7, 7, 7, 7, 7, 7, 7, 7, 7, 7, 7, 7, 7, 7, 7, 7]

/-- CYCLES, opcode bytes 0xA0 to 0xAF. -/
def cycRowA : List Nat :=
  [7, 7, 7, 7, 7, 7, 7, 7, 7, 7, 7, 7, 7, 7, 7, 7]

/-- CYCLES, opcode bytes 0xB0 to 0xBF. -/
def cycRowB : List Nat :=
  [7, 7, 7, 7, 7, 7, 7, 7, 7, 7, 7, 7, 7, 7, 7, 7]

/-- CYCLES, opcode bytes 0xC0 to 0xCF. -/
def cycRowC : List Nat :=
  [4, 4, 4, 10, 4, 4, 7, 4, 4, 4, 4, 4, 4, 4, 7, 4]

/-- CYCLES, opcode bytes 0xD0 to 0xDF. -/
def cycRowD : List Nat :=
  [4, 4, 4, 4, 4, 4, 7, 4, 4, 4, 4, 4, 4, 4, 7, 4]

/-- CYCLES, opcode bytes 0xE0 to 0xEF. -/
def cycRowE : List Nat :=
  [4, 4, 4, 4, 4, 4, 7, 4, 4, 4, 4, 4, 4, 4, 7, 4]

/-- CYCLES, opcode bytes 0xF0 to 0xFF. -/
def cycRowF : List Nat :=
  [4, 4, 4, 4, 4, 4, 7, 4, 4, 4, 4, 4, 4, 4, 7, 4]

/-- CYCLES of 49_step_scheduler.md R147, the default figures (DESIGN CHOICE of the spec for DAA and the fallback, log
entry 6). -/
def cyclesTable : List (List Nat) :=
  [cycRow0, cycRow1, cycRow2, cycRow3, cycRow4, cycRow5, cycRow6, cycRow7, cycRow8, cycRow9, cycRowA, cycRowB, cycRowC, cycRowD, cycRowE, cycRowF]

/-- CYCLES[op]: the instruction's cost in ticks, from the opcode byte alone (R147). -/
def cyclesOf (op : Byte) : Nat := tableAt cyclesTable op 4

/-- Whether the byte has a handler, opcode bytes 0x00 to 0x0F. -/
def catRow0 : List Bool :=
  [false, false, false, false, false, false, false, true, false, false, false, false, false, false, false, true]

/-- Whether the byte has a handler, opcode bytes 0x10 to 0x1F. -/
def catRow1 : List Bool :=
  [false, false, false, false, false, false, false, true, false, false, false, false, false, false, false, true]

/-- Whether the byte has a handler, opcode bytes 0x20 to 0x2F. -/
def catRow2 : List Bool :=
  [false, false, true, false, false, false, false, true, false, false, true, false, false, false, false, true]

/-- Whether the byte has a handler, opcode bytes 0x30 to 0x3F. -/
def catRow3 : List Bool :=
  [false, false, true, false, false, false, true, true, false, false, true, false, false, false, false, true]

/-- Whether the byte has a handler, opcode bytes 0x40 to 0x4F. -/
def catRow4 : List Bool :=
  [false, false, false, false, false, false, false, false, false, false, false, false, false, false, false, false]

/-- Whether the byte has a handler, opcode bytes 0x50 to 0x5F. -/
def catRow5 : List Bool :=
  [false, false, false, false, false, false, false, false, false, false, false, false, false, false, false, false]

/-- Whether the byte has a handler, opcode bytes 0x60 to 0x6F. -/
def catRow6 : List Bool :=
  [false, false, false, false, false, false, false, false, false, false, false, false, false, false, false, false]

/-- Whether the byte has a handler, opcode bytes 0x70 to 0x7F. -/
def catRow7 : List Bool :=
  [false, false, false, false, false, false, false, false, false, false, false, false, false, false, false, false]

/-- Whether the byte has a handler, opcode bytes 0x80 to 0x8F. -/
def catRow8 : List Bool :=
  [true, true, true, true, true, true, true, true, true, true, true, true, true, true, true, true]

/-- Whether the byte has a handler, opcode bytes 0x90 to 0x9F. -/
def catRow9 : List Bool :=
  [true, true, true, true, true, true, true, true, true, true, true, true, true, true, true, true]

/-- Whether the byte has a handler, opcode bytes 0xA0 to 0xAF. -/
def catRowA : List Bool :=
  [true, true, true, true, true, true, true, true, true, true, true, true, true, true, true, true]

/-- Whether the byte has a handler, opcode bytes 0xB0 to 0xBF. -/
def catRowB : List Bool :=
  [true, true, true, true, true, true, true, true, true, true, true, true, true, true, true, true]

/-- Whether the byte has a handler, opcode bytes 0xC0 to 0xCF. -/
def catRowC : List Bool :=
  [false, false, false, true, false, false, true, false, false, false, false, false, false, false, true, false]

/-- Whether the byte has a handler, opcode bytes 0xD0 to 0xDF. -/
def catRowD : List Bool :=
  [false, false, false, false, false, false, true, false, false, false, false, false, false, false, true, false]

/-- Whether the byte has a handler, opcode bytes 0xE0 to 0xEF. -/
def catRowE : List Bool :=
  [false, false, false, false, false, false, true, false, false, false, false, true, false, false, true, false]

/-- Whether the byte has a handler, opcode bytes 0xF0 to 0xFF. -/
def catRowF : List Bool :=
  [false, false, false, false, false, false, true, false, false, false, false, false, false, false, true, false]

/-- The catalog slice of 00_scope.md R3 as a table over the opcode bytes. -/
def cataloguedTable : List (List Bool) :=
  [catRow0, catRow1, catRow2, catRow3, catRow4, catRow5, catRow6, catRow7, catRow8, catRow9, catRowA, catRowB, catRowC, catRowD, catRowE, catRowF]

/-- Whether the opcode byte has a handler of its own (30_encoding.md R50) or takes the fallback (R51). -/
def hasHandler (op : Byte) : Bool := tableAt cataloguedTable op false

/-- `is_fallback` of 30_encoding.md R53. -/
def isFallback (op : Byte) : Bool := !hasHandler op

end Sys2Proof.Machine
end

