-- ==== Sys2Proof/Syntax.lean ====
section
/-! DEFINITION. The instructions: one constructor per row of spec/opcode_table.json, the 87 of the
catalog slice in opcode order and then the 169 without a handler. An operand is carried at
its own width (d8 a byte, a16 a word), so that every term of `Instr` is an instruction the hardware has. A row without operand
bytes is a constructor without arguments. The 169 rows `undefXX` are the opcode bytes with no handler
(30_encoding.md R51, 48_undefined_opcode.md R138); the Intel name in their comments is information only. -/

namespace Sys2Proof

/-- The seven register operands (10_state.md R11). Operand code 6 is the memory operand M and no register (R12,
30_encoding.md R48). -/
inductive Reg where
  | b | c | d | e | h | l | a
deriving DecidableEq, Repr

/-- The register pairs (10_state.md R13). -/
inductive Pair where
  | bc | de | hl
deriving DecidableEq, Repr

/-- The instruction set: 256 opcode bytes (30_encoding.md R50, R51). -/
inductive Instr where
  | rlc  -- 0x07 RLC, R125
  | rrc  -- 0x0F RRC, R126
  | ral  -- 0x17 RAL, R127
  | rar  -- 0x1F RAR, R128
  | shld (a16 : Word)  -- 0x22 SHLD a16, R79
  | daa  -- 0x27 DAA, R97
  | lhld (a16 : Word)  -- 0x2A LHLD a16, R78
  | cma  -- 0x2F CMA, R130
  | sta (a16 : Word)  -- 0x32 STA a16, R77
  | mviM (d8 : Byte)  -- 0x36 MVI M, d8, R75
  | stc  -- 0x37 STC, R132
  | lda (a16 : Word)  -- 0x3A LDA a16, R76
  | cmc  -- 0x3F CMC, R131
  | addB  -- 0x80 ADD B, R85
  | addC  -- 0x81 ADD C, R85
  | addD  -- 0x82 ADD D, R85
  | addE  -- 0x83 ADD E, R85
  | addH  -- 0x84 ADD H, R85
  | addL  -- 0x85 ADD L, R85
  | addM  -- 0x86 ADD M, R86
  | addA  -- 0x87 ADD A, R85
  | adcB  -- 0x88 ADC B, R87
  | adcC  -- 0x89 ADC C, R87
  | adcD  -- 0x8A ADC D, R87
  | adcE  -- 0x8B ADC E, R87
  | adcH  -- 0x8C ADC H, R87
  | adcL  -- 0x8D ADC L, R87
  | adcM  -- 0x8E ADC M, R88
  | adcA  -- 0x8F ADC A, R87
  | subB  -- 0x90 SUB B, R89
  | subC  -- 0x91 SUB C, R89
  | subD  -- 0x92 SUB D, R89
  | subE  -- 0x93 SUB E, R89
  | subH  -- 0x94 SUB H, R89
  | subL  -- 0x95 SUB L, R89
  | subM  -- 0x96 SUB M, R90
  | subA  -- 0x97 SUB A, R89
  | sbbB  -- 0x98 SBB B, R91
  | sbbC  -- 0x99 SBB C, R91
  | sbbD  -- 0x9A SBB D, R91
  | sbbE  -- 0x9B SBB E, R91
  | sbbH  -- 0x9C SBB H, R91
  | sbbL  -- 0x9D SBB L, R91
  | sbbM  -- 0x9E SBB M, R92
  | sbbA  -- 0x9F SBB A, R91
  | anaB  -- 0xA0 ANA B, R105
  | anaC  -- 0xA1 ANA C, R105
  | anaD  -- 0xA2 ANA D, R105
  | anaE  -- 0xA3 ANA E, R105
  | anaH  -- 0xA4 ANA H, R105
  | anaL  -- 0xA5 ANA L, R105
  | anaM  -- 0xA6 ANA M, R106
  | anaA  -- 0xA7 ANA A, R105
  | xraB  -- 0xA8 XRA B, R107
  | xraC  -- 0xA9 XRA C, R107
  | xraD  -- 0xAA XRA D, R107
  | xraE  -- 0xAB XRA E, R107
  | xraH  -- 0xAC XRA H, R107
  | xraL  -- 0xAD XRA L, R107
  | xraM  -- 0xAE XRA M, R108
  | xraA  -- 0xAF XRA A, R107
  | oraB  -- 0xB0 ORA B, R109
  | oraC  -- 0xB1 ORA C, R109
  | oraD  -- 0xB2 ORA D, R109
  | oraE  -- 0xB3 ORA E, R109
  | oraH  -- 0xB4 ORA H, R109
  | oraL  -- 0xB5 ORA L, R109
  | oraM  -- 0xB6 ORA M, R110
  | oraA  -- 0xB7 ORA A, R109
  | cmpB  -- 0xB8 CMP B, R120
  | cmpC  -- 0xB9 CMP C, R120
  | cmpD  -- 0xBA CMP D, R120
  | cmpE  -- 0xBB CMP E, R120
  | cmpH  -- 0xBC CMP H, R120
  | cmpL  -- 0xBD CMP L, R120
  | cmpM  -- 0xBE CMP M, R121
  | cmpA  -- 0xBF CMP A, R120
  | jmp (a16 : Word)  -- 0xC3 JMP a16, R135
  | adi (d8 : Byte)  -- 0xC6 ADI d8, R93
  | aci (d8 : Byte)  -- 0xCE ACI d8, R94
  | sui (d8 : Byte)  -- 0xD6 SUI d8, R95
  | sbi (d8 : Byte)  -- 0xDE SBI d8, R96
  | ani (d8 : Byte)  -- 0xE6 ANI d8, R111
  | xchg  -- 0xEB XCHG, R80
  | xri (d8 : Byte)  -- 0xEE XRI d8, R112
  | ori (d8 : Byte)  -- 0xF6 ORI d8, R113
  | cpi (d8 : Byte)  -- 0xFE CPI d8, R122
  | undef00  -- 0x00 no handler, R138 (Intel NOP)
  | undef01  -- 0x01 no handler, R138 (Intel LXI B)
  | undef02  -- 0x02 no handler, R138 (Intel STAX B)
  | undef03  -- 0x03 no handler, R138 (Intel INX B)
  | undef04  -- 0x04 no handler, R138 (Intel INR B)
  | undef05  -- 0x05 no handler, R138 (Intel DCR B)
  | undef06  -- 0x06 no handler, R138 (Intel MVI B)
  | undef08  -- 0x08 no handler, R138 (Intel undocumented)
  | undef09  -- 0x09 no handler, R138 (Intel DAD B)
  | undef0A  -- 0x0A no handler, R138 (Intel LDAX B)
  | undef0B  -- 0x0B no handler, R138 (Intel DCX B)
  | undef0C  -- 0x0C no handler, R138 (Intel INR C)
  | undef0D  -- 0x0D no handler, R138 (Intel DCR C)
  | undef0E  -- 0x0E no handler, R138 (Intel MVI C)
  | undef10  -- 0x10 no handler, R138 (Intel undocumented)
  | undef11  -- 0x11 no handler, R138 (Intel LXI D)
  | undef12  -- 0x12 no handler, R138 (Intel STAX D)
  | undef13  -- 0x13 no handler, R138 (Intel INX D)
  | undef14  -- 0x14 no handler, R138 (Intel INR D)
  | undef15  -- 0x15 no handler, R138 (Intel DCR D)
  | undef16  -- 0x16 no handler, R138 (Intel MVI D)
  | undef18  -- 0x18 no handler, R138 (Intel undocumented)
  | undef19  -- 0x19 no handler, R138 (Intel DAD D)
  | undef1A  -- 0x1A no handler, R138 (Intel LDAX D)
  | undef1B  -- 0x1B no handler, R138 (Intel DCX D)
  | undef1C  -- 0x1C no handler, R138 (Intel INR E)
  | undef1D  -- 0x1D no handler, R138 (Intel DCR E)
  | undef1E  -- 0x1E no handler, R138 (Intel MVI E)
  | undef20  -- 0x20 no handler, R138 (Intel undocumented)
  | undef21  -- 0x21 no handler, R138 (Intel LXI H)
  | undef23  -- 0x23 no handler, R138 (Intel INX H)
  | undef24  -- 0x24 no handler, R138 (Intel INR H)
  | undef25  -- 0x25 no handler, R138 (Intel DCR H)
  | undef26  -- 0x26 no handler, R138 (Intel MVI H)
  | undef28  -- 0x28 no handler, R138 (Intel undocumented)
  | undef29  -- 0x29 no handler, R138 (Intel DAD H)
  | undef2B  -- 0x2B no handler, R138 (Intel DCX H)
  | undef2C  -- 0x2C no handler, R138 (Intel INR L)
  | undef2D  -- 0x2D no handler, R138 (Intel DCR L)
  | undef2E  -- 0x2E no handler, R138 (Intel MVI L)
  | undef30  -- 0x30 no handler, R138 (Intel undocumented)
  | undef31  -- 0x31 no handler, R138 (Intel LXI SP)
  | undef33  -- 0x33 no handler, R138 (Intel INX SP)
  | undef34  -- 0x34 no handler, R138 (Intel INR M)
  | undef35  -- 0x35 no handler, R138 (Intel DCR M)
  | undef38  -- 0x38 no handler, R138 (Intel undocumented)
  | undef39  -- 0x39 no handler, R138 (Intel DAD SP)
  | undef3B  -- 0x3B no handler, R138 (Intel DCX SP)
  | undef3C  -- 0x3C no handler, R138 (Intel INR A)
  | undef3D  -- 0x3D no handler, R138 (Intel DCR A)
  | undef3E  -- 0x3E no handler, R138 (Intel MVI A)
  | undef40  -- 0x40 no handler, R138 (Intel MOV B,B)
  | undef41  -- 0x41 no handler, R138 (Intel MOV B,C)
  | undef42  -- 0x42 no handler, R138 (Intel MOV B,D)
  | undef43  -- 0x43 no handler, R138 (Intel MOV B,E)
  | undef44  -- 0x44 no handler, R138 (Intel MOV B,H)
  | undef45  -- 0x45 no handler, R138 (Intel MOV B,L)
  | undef46  -- 0x46 no handler, R138 (Intel MOV B,M)
  | undef47  -- 0x47 no handler, R138 (Intel MOV B,A)
  | undef48  -- 0x48 no handler, R138 (Intel MOV C,B)
  | undef49  -- 0x49 no handler, R138 (Intel MOV C,C)
  | undef4A  -- 0x4A no handler, R138 (Intel MOV C,D)
  | undef4B  -- 0x4B no handler, R138 (Intel MOV C,E)
  | undef4C  -- 0x4C no handler, R138 (Intel MOV C,H)
  | undef4D  -- 0x4D no handler, R138 (Intel MOV C,L)
  | undef4E  -- 0x4E no handler, R138 (Intel MOV C,M)
  | undef4F  -- 0x4F no handler, R138 (Intel MOV C,A)
  | undef50  -- 0x50 no handler, R138 (Intel MOV D,B)
  | undef51  -- 0x51 no handler, R138 (Intel MOV D,C)
  | undef52  -- 0x52 no handler, R138 (Intel MOV D,D)
  | undef53  -- 0x53 no handler, R138 (Intel MOV D,E)
  | undef54  -- 0x54 no handler, R138 (Intel MOV D,H)
  | undef55  -- 0x55 no handler, R138 (Intel MOV D,L)
  | undef56  -- 0x56 no handler, R138 (Intel MOV D,M)
  | undef57  -- 0x57 no handler, R138 (Intel MOV D,A)
  | undef58  -- 0x58 no handler, R138 (Intel MOV E,B)
  | undef59  -- 0x59 no handler, R138 (Intel MOV E,C)
  | undef5A  -- 0x5A no handler, R138 (Intel MOV E,D)
  | undef5B  -- 0x5B no handler, R138 (Intel MOV E,E)
  | undef5C  -- 0x5C no handler, R138 (Intel MOV E,H)
  | undef5D  -- 0x5D no handler, R138 (Intel MOV E,L)
  | undef5E  -- 0x5E no handler, R138 (Intel MOV E,M)
  | undef5F  -- 0x5F no handler, R138 (Intel MOV E,A)
  | undef60  -- 0x60 no handler, R138 (Intel MOV H,B)
  | undef61  -- 0x61 no handler, R138 (Intel MOV H,C)
  | undef62  -- 0x62 no handler, R138 (Intel MOV H,D)
  | undef63  -- 0x63 no handler, R138 (Intel MOV H,E)
  | undef64  -- 0x64 no handler, R138 (Intel MOV H,H)
  | undef65  -- 0x65 no handler, R138 (Intel MOV H,L)
  | undef66  -- 0x66 no handler, R138 (Intel MOV H,M)
  | undef67  -- 0x67 no handler, R138 (Intel MOV H,A)
  | undef68  -- 0x68 no handler, R138 (Intel MOV L,B)
  | undef69  -- 0x69 no handler, R138 (Intel MOV L,C)
  | undef6A  -- 0x6A no handler, R138 (Intel MOV L,D)
  | undef6B  -- 0x6B no handler, R138 (Intel MOV L,E)
  | undef6C  -- 0x6C no handler, R138 (Intel MOV L,H)
  | undef6D  -- 0x6D no handler, R138 (Intel MOV L,L)
  | undef6E  -- 0x6E no handler, R138 (Intel MOV L,M)
  | undef6F  -- 0x6F no handler, R138 (Intel MOV L,A)
  | undef70  -- 0x70 no handler, R138 (Intel MOV M,B)
  | undef71  -- 0x71 no handler, R138 (Intel MOV M,C)
  | undef72  -- 0x72 no handler, R138 (Intel MOV M,D)
  | undef73  -- 0x73 no handler, R138 (Intel MOV M,E)
  | undef74  -- 0x74 no handler, R138 (Intel MOV M,H)
  | undef75  -- 0x75 no handler, R138 (Intel MOV M,L)
  | undef76  -- 0x76 no handler, R138 (Intel HLT)
  | undef77  -- 0x77 no handler, R138 (Intel MOV M,A)
  | undef78  -- 0x78 no handler, R138 (Intel MOV A,B)
  | undef79  -- 0x79 no handler, R138 (Intel MOV A,C)
  | undef7A  -- 0x7A no handler, R138 (Intel MOV A,D)
  | undef7B  -- 0x7B no handler, R138 (Intel MOV A,E)
  | undef7C  -- 0x7C no handler, R138 (Intel MOV A,H)
  | undef7D  -- 0x7D no handler, R138 (Intel MOV A,L)
  | undef7E  -- 0x7E no handler, R138 (Intel MOV A,M)
  | undef7F  -- 0x7F no handler, R138 (Intel MOV A,A)
  | undefC0  -- 0xC0 no handler, R138 (Intel RNZ)
  | undefC1  -- 0xC1 no handler, R138 (Intel POP B)
  | undefC2  -- 0xC2 no handler, R138 (Intel JNZ)
  | undefC4  -- 0xC4 no handler, R138 (Intel CNZ)
  | undefC5  -- 0xC5 no handler, R138 (Intel PUSH B)
  | undefC7  -- 0xC7 no handler, R138 (Intel RST 0)
  | undefC8  -- 0xC8 no handler, R138 (Intel RZ)
  | undefC9  -- 0xC9 no handler, R138 (Intel RET)
  | undefCA  -- 0xCA no handler, R138 (Intel JZ)
  | undefCB  -- 0xCB no handler, R138 (Intel undocumented)
  | undefCC  -- 0xCC no handler, R138 (Intel CZ)
  | undefCD  -- 0xCD no handler, R138 (Intel CALL)
  | undefCF  -- 0xCF no handler, R138 (Intel RST 1)
  | undefD0  -- 0xD0 no handler, R138 (Intel RNC)
  | undefD1  -- 0xD1 no handler, R138 (Intel POP D)
  | undefD2  -- 0xD2 no handler, R138 (Intel JNC)
  | undefD3  -- 0xD3 no handler, R138 (Intel OUT)
  | undefD4  -- 0xD4 no handler, R138 (Intel CNC)
  | undefD5  -- 0xD5 no handler, R138 (Intel PUSH D)
  | undefD7  -- 0xD7 no handler, R138 (Intel RST 2)
  | undefD8  -- 0xD8 no handler, R138 (Intel RC)
  | undefD9  -- 0xD9 no handler, R138 (Intel undocumented)
  | undefDA  -- 0xDA no handler, R138 (Intel JC)
  | undefDB  -- 0xDB no handler, R138 (Intel IN)
  | undefDC  -- 0xDC no handler, R138 (Intel CC)
  | undefDD  -- 0xDD no handler, R138 (Intel undocumented)
  | undefDF  -- 0xDF no handler, R138 (Intel RST 3)
  | undefE0  -- 0xE0 no handler, R138 (Intel RPO)
  | undefE1  -- 0xE1 no handler, R138 (Intel POP H)
  | undefE2  -- 0xE2 no handler, R138 (Intel JPO)
  | undefE3  -- 0xE3 no handler, R138 (Intel XTHL)
  | undefE4  -- 0xE4 no handler, R138 (Intel CPO)
  | undefE5  -- 0xE5 no handler, R138 (Intel PUSH H)
  | undefE7  -- 0xE7 no handler, R138 (Intel RST 4)
  | undefE8  -- 0xE8 no handler, R138 (Intel RPE)
  | undefE9  -- 0xE9 no handler, R138 (Intel PCHL)
  | undefEA  -- 0xEA no handler, R138 (Intel JPE)
  | undefEC  -- 0xEC no handler, R138 (Intel CPE)
  | undefED  -- 0xED no handler, R138 (Intel undocumented)
  | undefEF  -- 0xEF no handler, R138 (Intel RST 5)
  | undefF0  -- 0xF0 no handler, R138 (Intel RP)
  | undefF1  -- 0xF1 no handler, R138 (Intel POP PSW)
  | undefF2  -- 0xF2 no handler, R138 (Intel JP)
  | undefF3  -- 0xF3 no handler, R138 (Intel DI)
  | undefF4  -- 0xF4 no handler, R138 (Intel CP)
  | undefF5  -- 0xF5 no handler, R138 (Intel PUSH PSW)
  | undefF7  -- 0xF7 no handler, R138 (Intel RST 6)
  | undefF8  -- 0xF8 no handler, R138 (Intel RM)
  | undefF9  -- 0xF9 no handler, R138 (Intel SPHL)
  | undefFA  -- 0xFA no handler, R138 (Intel JM)
  | undefFB  -- 0xFB no handler, R138 (Intel EI)
  | undefFC  -- 0xFC no handler, R138 (Intel CM)
  | undefFD  -- 0xFD no handler, R138 (Intel undocumented)
  | undefFF  -- 0xFF no handler, R138 (Intel RST 7)
deriving DecidableEq, Repr

/-- ADD r for each register operand. -/
def Instr.addR : Reg → Instr
  | .b => .addB
  | .c => .addC
  | .d => .addD
  | .e => .addE
  | .h => .addH
  | .l => .addL
  | .a => .addA

/-- ADC r for each register operand. -/
def Instr.adcR : Reg → Instr
  | .b => .adcB
  | .c => .adcC
  | .d => .adcD
  | .e => .adcE
  | .h => .adcH
  | .l => .adcL
  | .a => .adcA

/-- SUB r for each register operand. -/
def Instr.subR : Reg → Instr
  | .b => .subB
  | .c => .subC
  | .d => .subD
  | .e => .subE
  | .h => .subH
  | .l => .subL
  | .a => .subA

/-- SBB r for each register operand. -/
def Instr.sbbR : Reg → Instr
  | .b => .sbbB
  | .c => .sbbC
  | .d => .sbbD
  | .e => .sbbE
  | .h => .sbbH
  | .l => .sbbL
  | .a => .sbbA

/-- ANA r for each register operand. -/
def Instr.anaR : Reg → Instr
  | .b => .anaB
  | .c => .anaC
  | .d => .anaD
  | .e => .anaE
  | .h => .anaH
  | .l => .anaL
  | .a => .anaA

/-- XRA r for each register operand. -/
def Instr.xraR : Reg → Instr
  | .b => .xraB
  | .c => .xraC
  | .d => .xraD
  | .e => .xraE
  | .h => .xraH
  | .l => .xraL
  | .a => .xraA

/-- ORA r for each register operand. -/
def Instr.oraR : Reg → Instr
  | .b => .oraB
  | .c => .oraC
  | .d => .oraD
  | .e => .oraE
  | .h => .oraH
  | .l => .oraL
  | .a => .oraA

/-- CMP r for each register operand. -/
def Instr.cmpR : Reg → Instr
  | .b => .cmpB
  | .c => .cmpC
  | .d => .cmpD
  | .e => .cmpE
  | .h => .cmpH
  | .l => .cmpL
  | .a => .cmpA

end Sys2Proof
end

