-- ==== Sys2Proof/Machine/Ops.lean ====
section
/-! DEFINITION. The named operations over memory, registers and the scheduler's own state: the access contract of 10_state.md
R14, the access primitives of 20_memory.md R31, the one event of 60_exceptions.md R156, and the end of a fetch tick
(49_step_scheduler.md R143). -/

namespace Sys2Proof.Machine

/-- What a meaning answers: the outcome of one step of this machine. -/
abbrev Result := Host.Outcome State Fault Refusal

/-! ## The register file (10_state.md R10 to R14) -/

/-- `readRegister` for a register operand. -/
def Regs.get (r : Regs) : Reg → Byte
  | .b => r.b
  | .c => r.c
  | .d => r.d
  | .e => r.e
  | .h => r.h
  | .l => r.l
  | .a => r.a

/-- `writeRegister` for a register operand: nothing else changes. -/
def Regs.set (r : Regs) (x : Reg) (v : Byte) : Regs :=
  match x with
  | .b => { r with b := v }
  | .c => { r with c := v }
  | .d => { r with d := v }
  | .e => { r with e := v }
  | .h => { r with h := v }
  | .l => { r with l := v }
  | .a => { r with a := v }

/-- The cell at a 3-bit index (R10, R11), cell 6 among them: what inspection reads (R25). -/
def Regs.cell (r : Regs) (index : BitVec 3) : Byte :=
  match index.toNat with
  | 0 => r.b
  | 1 => r.c
  | 2 => r.d
  | 3 => r.e
  | 4 => r.h
  | 5 => r.l
  | 6 => r.cell6
  | _ => r.a

/-- `readPair`: the first register is the high byte (R13). -/
def Regs.pair (r : Regs) : Pair → Word
  | .bc => joinBytes r.b r.c
  | .de => joinBytes r.d r.e
  | .hl => joinBytes r.h r.l

/-- `writePair`: both cells of the pair (R13). -/
def Regs.setPair (r : Regs) (p : Pair) (v : Word) : Regs :=
  match p with
  | .bc => { r with b := highByte v, c := lowByte v }
  | .de => { r with d := highByte v, e := lowByte v }
  | .hl => { r with h := highByte v, l := lowByte v }

/-- The state with one register written. -/
def State.setReg (s : State) (x : Reg) (v : Byte) : State := { s with regs := s.regs.set x v }

/-- The state with a pair written. -/
def State.setPair (s : State) (p : Pair) (v : Word) : State := { s with regs := s.regs.setPair p v }

/-- The state with the flag byte written. -/
def State.setF (s : State) (f : Byte) : State := { s with f := f }

/-! ## Memory (20_memory.md) -/

/-- The byte at an address: a listed cell, else what an unlisted address reads as. -/
def Memory.read (m : Memory) (a : Nat) : Byte :=
  match m with
  | [] => Config.unlistedByte
  | (k, v) :: rest => if k = a then v else Memory.read rest a

/-- Puts a cell before a list of cells, unless it holds what an unlisted address reads as. -/
def Memory.put (a : Nat) (v : Byte) (rest : Memory) : Memory :=
  if v = Config.unlistedByte then rest else (a, v) :: rest

/-- Writes one byte and keeps the canonical form. -/
def Memory.write (m : Memory) (a : Nat) (v : Byte) : Memory :=
  match m with
  | [] => Memory.put a v []
  | (k, w) :: rest =>
    if k < a then (k, w) :: Memory.write rest a v
    else if k = a then Memory.put a v rest
    else Memory.put a v ((k, w) :: rest)

/-- Every listed address is at least `lo`, they rise strictly, all lie in memory, and no cell holds what an unlisted address
reads as. -/
def Memory.wfFrom (lo : Nat) (m : Memory) : Bool :=
  match m with
  | [] => true
  | (k, v) :: rest =>
    decide (lo ≤ k) && decide (k < Config.memSize) && decide (v ≠ Config.unlistedByte) && Memory.wfFrom (k + 1) rest

/-- The canonical form of memory. -/
def Memory.wf (m : Memory) : Bool := Memory.wfFrom 0 m

/-- `MemRead(addr, 1)` (R31): every address is legal and a read changes nothing (R35). -/
def State.read1 (s : State) (a : Word) : Byte := s.mem.read a.toNat

/-- `MemRead(addr, 2)` (R31): little-endian, wrapping from 0xFFFF to 0x0000. -/
def State.read2 (s : State) (a : Word) : Word := joinBytes (s.read1 (a + 1)) (s.read1 a)

/-- `MemWrite(addr, 1, v)` (R31). -/
def State.write1 (s : State) (a : Word) (v : Byte) : State := { s with mem := s.mem.write a.toNat v }

/-- `MemWrite(addr, 2, v)` (R31): the low byte at the address, then the high byte at the next one. -/
def State.write2 (s : State) (a : Word) (v : Word) : State := (s.write1 a (lowByte v)).write1 (a + 1) (highByte v)

/-! ## The exception-like event (60_exceptions.md) -/

/-- `raise UndefinedOpcode(op)` (R156): the latch UD and the output `undef` of this tick. It saves nothing, changes no PC and
no mode (R160), and has no return: only reset clears UD (R161). -/
def raiseUndefinedOpcode (s : State) : State := { s with ud := true, out := { s.out with undef := true } }

/-! ## The scheduler (49_step_scheduler.md R143) -/

/-- Step 1 of the tick: the signed decrement; the outputs of a busy tick are 0. -/
def countDown (s : State) : State :=
  { s with cnt := s.cnt - 1, out := { fetched := false, undef := false } }

/-- The start of a fetch tick: its output `fetched` is 1. -/
def beginFetch (s : State) : State := { s with out := { s.out with fetched := true } }

/-- The end of a fetch tick with `PC <- target`, `cnt <- CYCLES[op]`. -/
def finishAt (op : Byte) (target : Word) (s : State) : State := { s with pc := target, cnt := Int.ofNat (cyclesOf op) }

/-- The end of a fetch tick of an instruction that does not set PC: `PC <- (pc0 + LEN[op]) mod 65536`,
`cnt <- CYCLES[op]` (10_state.md R18). -/
def retire (op : Byte) (s : State) : Result := .next (finishAt op (s.pc + BitVec.ofNat 16 (lenOf op)) s)

/-- The end of a fetch tick of a jump: PC is the target, not advanced again (47_jump.md R135). -/
def retireAt (op : Byte) (target : Word) (s : State) : Result := .next (finishAt op target s)

end Sys2Proof.Machine
end

