-- ==== Sys2Proof/Machine/Flags.lean ====
section
/-! DEFINITION. The flag byte and the ALU (10_state.md R15 to R17; 40_alu_flags.md R60 to R73) and the default decimal-adjust
function (42_arithmetic.md R97). Results are computed on integers and narrowed at the end. -/

namespace Sys2Proof.Machine

/-! ## The flag byte (10_state.md R15, R17) -/

/-- Carry, bit 0. -/
def maskCY : Byte := 0x01

/-- Parity, bit 2. -/
def maskP : Byte := 0x04

/-- Auxiliary Carry, bit 4. -/
def maskAC : Byte := 0x10

/-- Zero, bit 6. -/
def maskZ : Byte := 0x40

/-- Sign, bit 7. -/
def maskS : Byte := 0x80

/-- The five condition bits (R71): S Z AC P CY. -/
def maskAll : Byte := 0xD5

/-- `testFlag(mask)` of R17. -/
def testFlag (f mask : Byte) : Bool := f &&& mask != 0

/-- `setFlag(mask)` of R17. -/
def setFlag (f mask : Byte) : Byte := f ||| mask

/-- `clearFlag(mask)` of R17. -/
def clearFlag (f mask : Byte) : Byte := f &&& ~~~mask

/-- `assignFlag(mask, b)` of R17. -/
def assignFlag (f mask : Byte) (b : Bool) : Byte := if b then setFlag f mask else clearFlag f mask

/-! ## The ALU (40_alu_flags.md) -/

/-- What the ALU gives: the 8-bit result and the five condition bits (R73). -/
structure AluOut where
  res : Byte
  s : Bool
  z : Bool
  ac : Bool
  p : Bool
  cy : Bool
deriving DecidableEq, Repr

/-- A result with its Z, S and P (ZSP of R72, by R61 to R63) and the given AC and CY. -/
def aluOut (res : Byte) (ac cy : Bool) : AluOut where
  res := res
  s := res.msb
  z := res == 0
  ac := ac
  p := popcount8 res % 2 == 0
  cy := cy

/-- The low nibble as an integer, `v & 0xF`. -/
def lowNibble (v : Byte) : Nat := v.toNat % 16

/-- The high nibble as an integer, `v[7:4]`. -/
def highNibble (v : Byte) : Nat := v.toNat / 16

/-- ADD8 of R73, by R60, R64, R66 and, with a carry in, R68. -/
def add8 (a b : Byte) (cin : Bool) : AluOut :=
  let t : Nat := a.toNat + b.toNat + cin.toNat
  aluOut (BitVec.ofNat 8 t) (decide (lowNibble a + lowNibble b + cin.toNat > 15)) (decide (t > 255))

/-- SUB8 of R73, by R60, R65, R67 and, with a borrow in, R69. AC is the half-borrow of the spec's rule. -/
def sub8 (a b : Byte) (bin : Bool) : AluOut :=
  let t : Int := (a.toNat : Int) - b.toNat - bin.toNat
  aluOut (BitVec.ofInt 8 t) (decide ((lowNibble a : Int) - lowNibble b - bin.toNat < 0)) (decide (t < 0))

/-- The kinds of logical operation (R73). -/
inductive LogicKind where
  | and | xor | or
deriving DecidableEq, Repr

/-- LOGIC of R73, by R70: CY is 0; AC is `a[3] | b[3]` for AND and 0 otherwise. -/
def logic8 (kind : LogicKind) (a b : Byte) : AluOut :=
  match kind with
  | .and => aluOut (a &&& b) (a.getLsbD 3 || b.getLsbD 3) false
  | .xor => aluOut (a ^^^ b) false false
  | .or => aluOut (a ||| b) false false

/-- The flag byte with the five condition bits of an ALU result assigned one by one; bits 1, 3 and 5 are in no mask and stay
(R71, 10_state.md R16). -/
def assignAlu (f : Byte) (o : AluOut) : Byte :=
  assignFlag (assignFlag (assignFlag (assignFlag (assignFlag f maskZ o.z) maskS o.s) maskP o.p) maskCY o.cy) maskAC o.ac

/-- Writes the five flags of an ALU result, and not the result (44_compare.md R123). -/
def setAluFlags (o : AluOut) (s : State) : State := s.setF (assignAlu s.f o)

/-- Writes the five flags of an ALU result and the result to the accumulator. -/
def accumulate (o : AluOut) (s : State) : State := (setAluFlags o s).setReg .a o.res

/-- Writes the Carry flag alone (mask 0x01 of R71). -/
def setCarry (b : Bool) (s : State) : State := s.setF (assignFlag s.f maskCY b)

/-! ## The decimal adjust (42_arithmetic.md R97, R98) -/

/-- What a DAA_FN gives: the new accumulator, AC and CY. -/
structure DaaOut where
  a : Byte
  ac : Bool
  cy : Bool
deriving DecidableEq, Repr

/-- Whether step 1 of R97 corrects the low nibble. -/
def daaLowRuns (a : Byte) (ac : Bool) : Bool := decide (lowNibble a > 9) || ac

/-- The accumulator after step 1; a carry out of bit 7 is dropped. -/
def daaLow (a : Byte) (ac : Bool) : Byte := if daaLowRuns a ac then a + 0x06 else a

/-- Whether step 2 of R97 corrects the high nibble, tested on the value step 1 left. -/
def daaHighRuns (a1 : Byte) (cy : Bool) : Bool := decide (highNibble a1 > 9) || cy

/-- The default DAA_FN of R97 (log entry 5): two sequential nibble corrections; AC is the nibble carry of the low one and 0
when it does not run; CY is raised by an overflow of the high one and never cleared. -/
def daaFn (a : Byte) (ac cy : Bool) : DaaOut where
  a := if daaHighRuns (daaLow a ac) cy then daaLow a ac + 0x60 else daaLow a ac
  ac := daaLowRuns a ac && decide (lowNibble a + 6 > 15)
  cy := cy || (daaHighRuns (daaLow a ac) cy && decide ((daaLow a ac).toNat + 0x60 > 255))

end Sys2Proof.Machine
end

