-- ==== Sys2Proof/Machine/Operands.lean ====
section
/-! DEFINITION. The operand forms of 30_encoding.md R47 and R48. A register operand is `Regs.get`; an immediate and a direct
address are the arguments of the instruction, read by the decoder; what is left is the form that goes through HL. -/

namespace Sys2Proof.Machine

/-- The address of the memory operand M: `rp[HL]` (R47). -/
def addressM (s : State) : Word := s.regs.pair .hl

/-- The memory operand M: `MemRead(rp[HL], 1)` (R48). -/
def operandM (s : State) : Byte := s.read1 (addressM s)

end Sys2Proof.Machine
end

