-- ==== Sys2Proof/Machine/Arithmetic.lean ====
section
/-! DEFINITION. The arithmetic family (42_arithmetic.md R85 to R98): ADD, ADC, SUB, SBB with a register, M or immediate
operand, and DAA. Each writes the accumulator and the five flags and nothing else; the scheduler's part is `retire`. -/

namespace Sys2Proof.Machine

/-- `r[A] <- ADD8(r[A], b, 0)` (R85, R86, R93). -/
def addAcc (b : Byte) (s : State) : State := accumulate (add8 s.regs.a b false) s

/-- `r[A] <- ADD8(r[A], b, F.CY)` (R87, R88, R94). -/
def adcAcc (b : Byte) (s : State) : State := accumulate (add8 s.regs.a b (testFlag s.f maskCY)) s

/-- `r[A] <- SUB8(r[A], b, 0)` (R89, R90, R95). -/
def subAcc (b : Byte) (s : State) : State := accumulate (sub8 s.regs.a b false) s

/-- `r[A] <- SUB8(r[A], b, F.CY)` (R91, R92, R96). -/
def sbbAcc (b : Byte) (s : State) : State := accumulate (sub8 s.regs.a b (testFlag s.f maskCY)) s

/-- ADD B (R85). -/
def execAddB (s : State) : Result := retire 0x80 (addAcc (s.regs.get .b) s)

/-- ADD C (R85). -/
def execAddC (s : State) : Result := retire 0x81 (addAcc (s.regs.get .c) s)

/-- ADD D (R85). -/
def execAddD (s : State) : Result := retire 0x82 (addAcc (s.regs.get .d) s)

/-- ADD E (R85). -/
def execAddE (s : State) : Result := retire 0x83 (addAcc (s.regs.get .e) s)

/-- ADD H (R85). -/
def execAddH (s : State) : Result := retire 0x84 (addAcc (s.regs.get .h) s)

/-- ADD L (R85). -/
def execAddL (s : State) : Result := retire 0x85 (addAcc (s.regs.get .l) s)

/-- ADD M (R86). -/
def execAddM (s : State) : Result := retire 0x86 (addAcc (operandM s) s)

/-- ADD A (R85). -/
def execAddA (s : State) : Result := retire 0x87 (addAcc (s.regs.get .a) s)

/-- ADI d8 (R93). -/
def execAdi (d8 : Byte) (s : State) : Result := retire 0xC6 (addAcc d8 s)

/-- ADC B (R87). -/
def execAdcB (s : State) : Result := retire 0x88 (adcAcc (s.regs.get .b) s)

/-- ADC C (R87). -/
def execAdcC (s : State) : Result := retire 0x89 (adcAcc (s.regs.get .c) s)

/-- ADC D (R87). -/
def execAdcD (s : State) : Result := retire 0x8A (adcAcc (s.regs.get .d) s)

/-- ADC E (R87). -/
def execAdcE (s : State) : Result := retire 0x8B (adcAcc (s.regs.get .e) s)

/-- ADC H (R87). -/
def execAdcH (s : State) : Result := retire 0x8C (adcAcc (s.regs.get .h) s)

/-- ADC L (R87). -/
def execAdcL (s : State) : Result := retire 0x8D (adcAcc (s.regs.get .l) s)

/-- ADC M (R88). -/
def execAdcM (s : State) : Result := retire 0x8E (adcAcc (operandM s) s)

/-- ADC A (R87). -/
def execAdcA (s : State) : Result := retire 0x8F (adcAcc (s.regs.get .a) s)

/-- ACI d8 (R94). -/
def execAci (d8 : Byte) (s : State) : Result := retire 0xCE (adcAcc d8 s)

/-- SUB B (R89). -/
def execSubB (s : State) : Result := retire 0x90 (subAcc (s.regs.get .b) s)

/-- SUB C (R89). -/
def execSubC (s : State) : Result := retire 0x91 (subAcc (s.regs.get .c) s)

/-- SUB D (R89). -/
def execSubD (s : State) : Result := retire 0x92 (subAcc (s.regs.get .d) s)

/-- SUB E (R89). -/
def execSubE (s : State) : Result := retire 0x93 (subAcc (s.regs.get .e) s)

/-- SUB H (R89). -/
def execSubH (s : State) : Result := retire 0x94 (subAcc (s.regs.get .h) s)

/-- SUB L (R89). -/
def execSubL (s : State) : Result := retire 0x95 (subAcc (s.regs.get .l) s)

/-- SUB M (R90). -/
def execSubM (s : State) : Result := retire 0x96 (subAcc (operandM s) s)

/-- SUB A (R89). -/
def execSubA (s : State) : Result := retire 0x97 (subAcc (s.regs.get .a) s)

/-- SUI d8 (R95). -/
def execSui (d8 : Byte) (s : State) : Result := retire 0xD6 (subAcc d8 s)

/-- SBB B (R91). -/
def execSbbB (s : State) : Result := retire 0x98 (sbbAcc (s.regs.get .b) s)

/-- SBB C (R91). -/
def execSbbC (s : State) : Result := retire 0x99 (sbbAcc (s.regs.get .c) s)

/-- SBB D (R91). -/
def execSbbD (s : State) : Result := retire 0x9A (sbbAcc (s.regs.get .d) s)

/-- SBB E (R91). -/
def execSbbE (s : State) : Result := retire 0x9B (sbbAcc (s.regs.get .e) s)

/-- SBB H (R91). -/
def execSbbH (s : State) : Result := retire 0x9C (sbbAcc (s.regs.get .h) s)

/-- SBB L (R91). -/
def execSbbL (s : State) : Result := retire 0x9D (sbbAcc (s.regs.get .l) s)

/-- SBB M (R92). -/
def execSbbM (s : State) : Result := retire 0x9E (sbbAcc (operandM s) s)

/-- SBB A (R91). -/
def execSbbA (s : State) : Result := retire 0x9F (sbbAcc (s.regs.get .a) s)

/-- SBI d8 (R96). -/
def execSbi (d8 : Byte) (s : State) : Result := retire 0xDE (sbbAcc d8 s)

/-- The decimal adjust with a given DAA_FN (R97, R98): the function gives A, AC and CY; Z, S and P are those of the new A. -/
def adjustWith (fn : Byte → Bool → Bool → DaaOut) (s : State) : State :=
  let o := fn s.regs.a (testFlag s.f maskAC) (testFlag s.f maskCY)
  accumulate (aluOut o.a o.ac o.cy) s

/-- DAA (R97) with the default DAA_FN. -/
def execDaa (s : State) : Result := retire 0x27 (adjustWith daaFn s)

end Sys2Proof.Machine
end

