-- ==== Sys2Proof/Machine/Compare.lean ====
section
/-! DEFINITION. The compare family (44_compare.md R120 to R123): the flags of a subtraction, its result thrown away. -/

namespace Sys2Proof.Machine

/-- `SUB8(r[A], b, 0)` for its flags (R123). -/
def cmpAcc (b : Byte) (s : State) : State := setAluFlags (sub8 s.regs.a b false) s

/-- CMP B (R120). -/
def execCmpB (s : State) : Result := retire 0xB8 (cmpAcc (s.regs.get .b) s)

/-- CMP C (R120). -/
def execCmpC (s : State) : Result := retire 0xB9 (cmpAcc (s.regs.get .c) s)

/-- CMP D (R120). -/
def execCmpD (s : State) : Result := retire 0xBA (cmpAcc (s.regs.get .d) s)

/-- CMP E (R120). -/
def execCmpE (s : State) : Result := retire 0xBB (cmpAcc (s.regs.get .e) s)

/-- CMP H (R120). -/
def execCmpH (s : State) : Result := retire 0xBC (cmpAcc (s.regs.get .h) s)

/-- CMP L (R120). -/
def execCmpL (s : State) : Result := retire 0xBD (cmpAcc (s.regs.get .l) s)

/-- CMP M (R121). -/
def execCmpM (s : State) : Result := retire 0xBE (cmpAcc (operandM s) s)

/-- CMP A (R120). -/
def execCmpA (s : State) : Result := retire 0xBF (cmpAcc (s.regs.get .a) s)

/-- CPI d8 (R122). -/
def execCpi (d8 : Byte) (s : State) : Result := retire 0xFE (cmpAcc d8 s)

end Sys2Proof.Machine
end

