-- ==== Sys2Proof/Machine/ComplementCarry.lean ====
section
/-! DEFINITION. The complement and carry-control family (46_complement_carry.md R130 to R133). -/

namespace Sys2Proof.Machine

/-- CMA (R130): `r[A] <- r[A] ^ 0xFF`; no flag is written. -/
def execCma (s : State) : Result := retire 0x2F (s.setReg .a (s.regs.a ^^^ 0xFF))

/-- CMC (R131): `F.CY <- 1 - F.CY`. -/
def execCmc (s : State) : Result := retire 0x3F (setCarry (!testFlag s.f maskCY) s)

/-- STC (R132): `F.CY <- 1`. -/
def execStc (s : State) : Result := retire 0x37 (setCarry true s)

end Sys2Proof.Machine
end

