-- ==== Sys2Proof/Machine/DataTransfer.lean ====
section
/-! DEFINITION. The move, store, load and exchange family (41_data_transfer.md R75 to R81). None touches a flag (R81). -/

namespace Sys2Proof.Machine

/-- MVI M, d8 (R75): `MemWrite(rp[HL], 1, d8)`. -/
def execMviM (d8 : Byte) (s : State) : Result := retire 0x36 (s.write1 (addressM s) d8)

/-- LDA a16 (R76): `r[A] <- MemRead(a16, 1)`. -/
def execLda (a16 : Word) (s : State) : Result := retire 0x3A (s.setReg .a (s.read1 a16))

/-- STA a16 (R77): `MemWrite(a16, 1, r[A])`. -/
def execSta (a16 : Word) (s : State) : Result := retire 0x32 (s.write1 a16 s.regs.a)

/-- LHLD a16 (R78): `rp[HL] <- MemRead(a16, 2)`. -/
def execLhld (a16 : Word) (s : State) : Result := retire 0x2A (s.setPair .hl (s.read2 a16))

/-- SHLD a16 (R79): `MemWrite(a16, 2, rp[HL])`. -/
def execShld (a16 : Word) (s : State) : Result := retire 0x22 (s.write2 a16 (s.regs.pair .hl))

/-- XCHG (R80): `t = rp[HL]; rp[HL] <- rp[DE]; rp[DE] <- t`. -/
def execXchg (s : State) : Result :=
  retire 0xEB ((s.setPair .hl (s.regs.pair .de)).setPair .de (s.regs.pair .hl))

end Sys2Proof.Machine
end

