-- ==== Sys2Proof/Machine/Jump.lean ====
section
/-! DEFINITION. Control transfer (47_jump.md R135): JMP is the only instruction that sets PC itself (R136). -/

namespace Sys2Proof.Machine

/-- JMP a16 (R135): `pc <- a16`. -/
def execJmp (a16 : Word) (s : State) : Result := retireAt 0xC3 a16 s

end Sys2Proof.Machine
end

