-- ==== Sys2Proof/Machine/Logical.lean ====
section
/-! DEFINITION. The logical family (43_logical.md R105 to R114): ANA, XRA, ORA with a register, M or immediate operand. -/

namespace Sys2Proof.Machine

/-- `r[A] <- LOGIC(AND, r[A], b)` (R105, R106, R111). -/
def anaAcc (b : Byte) (s : State) : State := accumulate (logic8 .and s.regs.a b) s

/-- `r[A] <- LOGIC(XOR, r[A], b)` (R107, R108, R112). -/
def xraAcc (b : Byte) (s : State) : State := accumulate (logic8 .xor s.regs.a b) s

/-- `r[A] <- LOGIC(OR, r[A], b)` (R109, R110, R113). -/
def oraAcc (b : Byte) (s : State) : State := accumulate (logic8 .or s.regs.a b) s

/-- ANA B (R105). -/
def execAnaB (s : State) : Result := retire 0xA0 (anaAcc (s.regs.get .b) s)

/-- ANA C (R105). -/
def execAnaC (s : State) : Result := retire 0xA1 (anaAcc (s.regs.get .c) s)

/-- ANA D (R105). -/
def execAnaD (s : State) : Result := retire 0xA2 (anaAcc (s.regs.get .d) s)

/-- ANA E (R105). -/
def execAnaE (s : State) : Result := retire 0xA3 (anaAcc (s.regs.get .e) s)

/-- ANA H (R105). -/
def execAnaH (s : State) : Result := retire 0xA4 (anaAcc (s.regs.get .h) s)

/-- ANA L (R105). -/
def execAnaL (s : State) : Result := retire 0xA5 (anaAcc (s.regs.get .l) s)

/-- ANA M (R106). -/
def execAnaM (s : State) : Result := retire 0xA6 (anaAcc (operandM s) s)

/-- ANA A (R105). -/
def execAnaA (s : State) : Result := retire 0xA7 (anaAcc (s.regs.get .a) s)

/-- ANI d8 (R111). -/
def execAni (d8 : Byte) (s : State) : Result := retire 0xE6 (anaAcc d8 s)

/-- XRA B (R107). -/
def execXraB (s : State) : Result := retire 0xA8 (xraAcc (s.regs.get .b) s)

/-- XRA C (R107). -/
def execXraC (s : State) : Result := retire 0xA9 (xraAcc (s.regs.get .c) s)

/-- XRA D (R107). -/
def execXraD (s : State) : Result := retire 0xAA (xraAcc (s.regs.get .d) s)

/-- XRA E (R107). -/
def execXraE (s : State) : Result := retire 0xAB (xraAcc (s.regs.get .e) s)

/-- XRA H (R107). -/
def execXraH (s : State) : Result := retire 0xAC (xraAcc (s.regs.get .h) s)

/-- XRA L (R107). -/
def execXraL (s : State) : Result := retire 0xAD (xraAcc (s.regs.get .l) s)

/-- XRA M (R108). -/
def execXraM (s : State) : Result := retire 0xAE (xraAcc (operandM s) s)

/-- XRA A (R107). -/
def execXraA (s : State) : Result := retire 0xAF (xraAcc (s.regs.get .a) s)

/-- XRI d8 (R112). -/
def execXri (d8 : Byte) (s : State) : Result := retire 0xEE (xraAcc d8 s)

/-- ORA B (R109). -/
def execOraB (s : State) : Result := retire 0xB0 (oraAcc (s.regs.get .b) s)

/-- ORA C (R109). -/
def execOraC (s : State) : Result := retire 0xB1 (oraAcc (s.regs.get .c) s)

/-- ORA D (R109). -/
def execOraD (s : State) : Result := retire 0xB2 (oraAcc (s.regs.get .d) s)

/-- ORA E (R109). -/
def execOraE (s : State) : Result := retire 0xB3 (oraAcc (s.regs.get .e) s)

/-- ORA H (R109). -/
def execOraH (s : State) : Result := retire 0xB4 (oraAcc (s.regs.get .h) s)

/-- ORA L (R109). -/
def execOraL (s : State) : Result := retire 0xB5 (oraAcc (s.regs.get .l) s)

/-- ORA M (R110). -/
def execOraM (s : State) : Result := retire 0xB6 (oraAcc (operandM s) s)

/-- ORA A (R109). -/
def execOraA (s : State) : Result := retire 0xB7 (oraAcc (s.regs.get .a) s)

/-- ORI d8 (R113). -/
def execOri (d8 : Byte) (s : State) : Result := retire 0xF6 (oraAcc d8 s)

end Sys2Proof.Machine
end

