-- ==== Sys2Proof/Machine/Rotate.lean ====
section
/-! DEFINITION. The rotate family (45_rotate.md R125 to R129): the accumulator by one bit; A and CY are written and nothing
else. -/

namespace Sys2Proof.Machine

/-- RLC (R125): `r[A] <- {a[6:0], a[7]}; F.CY <- a[7]`. -/
def execRlc (s : State) : Result :=
  let a := s.regs.a
  retire 0x07 (setCarry (a.getLsbD 7) (s.setReg .a (joinLow (a.extractLsb' 0 7) (a.getLsbD 7))))

/-- RRC (R126): `r[A] <- {a[0], a[7:1]}; F.CY <- a[0]`. -/
def execRrc (s : State) : Result :=
  let a := s.regs.a
  retire 0x0F (setCarry (a.getLsbD 0) (s.setReg .a (joinHigh (a.getLsbD 0) (a.extractLsb' 1 7))))

/-- RAL (R127): `r[A] <- {a[6:0], c}; F.CY <- a[7]` with c the old CY. -/
def execRal (s : State) : Result :=
  let a := s.regs.a
  retire 0x17 (setCarry (a.getLsbD 7) (s.setReg .a (joinLow (a.extractLsb' 0 7) (testFlag s.f maskCY))))

/-- RAR (R128): `r[A] <- {c, a[7:1]}; F.CY <- a[0]` with c the old CY. -/
def execRar (s : State) : Result :=
  let a := s.regs.a
  retire 0x1F (setCarry (a.getLsbD 0) (s.setReg .a (joinHigh (testFlag s.f maskCY) (a.extractLsb' 1 7))))

end Sys2Proof.Machine
end

