-- ==== Sys2Proof/Machine/Undefined.lean ====
section
/-! DEFINITION. The undefined-opcode fallback (48_undefined_opcode.md R138): the 169 opcode bytes with no handler. Each takes
the one event of the block, UndefinedOpcode (60_exceptions.md R156), and the scheduler passes over one byte in 4 ticks. No
operand byte is read, and no byte has its Intel meaning (30_encoding.md R51). -/

namespace Sys2Proof.Machine

/-- The fallback handler for the opcode byte `op` (R138): `raise UndefinedOpcode(op)` and nothing else. -/
def fallback (op : Byte) (s : State) : Result := retire op (raiseUndefinedOpcode s)

/-- 0x00, no handler (R138). -/
def execUndef00 (s : State) : Result := fallback 0x00 s

/-- 0x01, no handler (R138). -/
def execUndef01 (s : State) : Result := fallback 0x01 s

/-- 0x02, no handler (R138). -/
def execUndef02 (s : State) : Result := fallback 0x02 s

/-- 0x03, no handler (R138). -/
def execUndef03 (s : State) : Result := fallback 0x03 s

/-- 0x04, no handler (R138). -/
def execUndef04 (s : State) : Result := fallback 0x04 s

/-- 0x05, no handler (R138). -/
def execUndef05 (s : State) : Result := fallback 0x05 s

/-- 0x06, no handler (R138). -/
def execUndef06 (s : State) : Result := fallback 0x06 s

/-- 0x08, no handler (R138). -/
def execUndef08 (s : State) : Result := fallback 0x08 s

/-- 0x09, no handler (R138). -/
def execUndef09 (s : State) : Result := fallback 0x09 s

/-- 0x0A, no handler (R138). -/
def execUndef0A (s : State) : Result := fallback 0x0A s

/-- 0x0B, no handler (R138). -/
def execUndef0B (s : State) : Result := fallback 0x0B s

/-- 0x0C, no handler (R138). -/
def execUndef0C (s : State) : Result := fallback 0x0C s

/-- 0x0D, no handler (R138). -/
def execUndef0D (s : State) : Result := fallback 0x0D s

/-- 0x0E, no handler (R138). -/
def execUndef0E (s : State) : Result := fallback 0x0E s

/-- 0x10, no handler (R138). -/
def execUndef10 (s : State) : Result := fallback 0x10 s

/-- 0x11, no handler (R138). -/
def execUndef11 (s : State) : Result := fallback 0x11 s

/-- 0x12, no handler (R138). -/
def execUndef12 (s : State) : Result := fallback 0x12 s

/-- 0x13, no handler (R138). -/
def execUndef13 (s : State) : Result := fallback 0x13 s

/-- 0x14, no handler (R138). -/
def execUndef14 (s : State) : Result := fallback 0x14 s

/-- 0x15, no handler (R138). -/
def execUndef15 (s : State) : Result := fallback 0x15 s

/-- 0x16, no handler (R138). -/
def execUndef16 (s : State) : Result := fallback 0x16 s

/-- 0x18, no handler (R138). -/
def execUndef18 (s : State) : Result := fallback 0x18 s

/-- 0x19, no handler (R138). -/
def execUndef19 (s : State) : Result := fallback 0x19 s

/-- 0x1A, no handler (R138). -/
def execUndef1A (s : State) : Result := fallback 0x1A s

/-- 0x1B, no handler (R138). -/
def execUndef1B (s : State) : Result := fallback 0x1B s

/-- 0x1C, no handler (R138). -/
def execUndef1C (s : State) : Result := fallback 0x1C s

/-- 0x1D, no handler (R138). -/
def execUndef1D (s : State) : Result := fallback 0x1D s

/-- 0x1E, no handler (R138). -/
def execUndef1E (s : State) : Result := fallback 0x1E s

/-- 0x20, no handler (R138). -/
def execUndef20 (s : State) : Result := fallback 0x20 s

/-- 0x21, no handler (R138). -/
def execUndef21 (s : State) : Result := fallback 0x21 s

/-- 0x23, no handler (R138). -/
def execUndef23 (s : State) : Result := fallback 0x23 s

/-- 0x24, no handler (R138). -/
def execUndef24 (s : State) : Result := fallback 0x24 s

/-- 0x25, no handler (R138). -/
def execUndef25 (s : State) : Result := fallback 0x25 s

/-- 0x26, no handler (R138). -/
def execUndef26 (s : State) : Result := fallback 0x26 s

/-- 0x28, no handler (R138). -/
def execUndef28 (s : State) : Result := fallback 0x28 s

/-- 0x29, no handler (R138). -/
def execUndef29 (s : State) : Result := fallback 0x29 s

/-- 0x2B, no handler (R138). -/
def execUndef2B (s : State) : Result := fallback 0x2B s

/-- 0x2C, no handler (R138). -/
def execUndef2C (s : State) : Result := fallback 0x2C s

/-- 0x2D, no handler (R138). -/
def execUndef2D (s : State) : Result := fallback 0x2D s

/-- 0x2E, no handler (R138). -/
def execUndef2E (s : State) : Result := fallback 0x2E s

/-- 0x30, no handler (R138). -/
def execUndef30 (s : State) : Result := fallback 0x30 s

/-- 0x31, no handler (R138). -/
def execUndef31 (s : State) : Result := fallback 0x31 s

/-- 0x33, no handler (R138). -/
def execUndef33 (s : State) : Result := fallback 0x33 s

/-- 0x34, no handler (R138). -/
def execUndef34 (s : State) : Result := fallback 0x34 s

/-- 0x35, no handler (R138). -/
def execUndef35 (s : State) : Result := fallback 0x35 s

/-- 0x38, no handler (R138). -/
def execUndef38 (s : State) : Result := fallback 0x38 s

/-- 0x39, no handler (R138). -/
def execUndef39 (s : State) : Result := fallback 0x39 s

/-- 0x3B, no handler (R138). -/
def execUndef3B (s : State) : Result := fallback 0x3B s

/-- 0x3C, no handler (R138). -/
def execUndef3C (s : State) : Result := fallback 0x3C s

/-- 0x3D, no handler (R138). -/
def execUndef3D (s : State) : Result := fallback 0x3D s

/-- 0x3E, no handler (R138). -/
def execUndef3E (s : State) : Result := fallback 0x3E s

/-- 0x40, no handler (R138). -/
def execUndef40 (s : State) : Result := fallback 0x40 s

/-- 0x41, no handler (R138). -/
def execUndef41 (s : State) : Result := fallback 0x41 s

/-- 0x42, no handler (R138). -/
def execUndef42 (s : State) : Result := fallback 0x42 s

/-- 0x43, no handler (R138). -/
def execUndef43 (s : State) : Result := fallback 0x43 s

/-- 0x44, no handler (R138). -/
def execUndef44 (s : State) : Result := fallback 0x44 s

/-- 0x45, no handler (R138). -/
def execUndef45 (s : State) : Result := fallback 0x45 s

/-- 0x46, no handler (R138). -/
def execUndef46 (s : State) : Result := fallback 0x46 s

/-- 0x47, no handler (R138). -/
def execUndef47 (s : State) : Result := fallback 0x47 s

/-- 0x48, no handler (R138). -/
def execUndef48 (s : State) : Result := fallback 0x48 s

/-- 0x49, no handler (R138). -/
def execUndef49 (s : State) : Result := fallback 0x49 s

/-- 0x4A, no handler (R138). -/
def execUndef4A (s : State) : Result := fallback 0x4A s

/-- 0x4B, no handler (R138). -/
def execUndef4B (s : State) : Result := fallback 0x4B s

/-- 0x4C, no handler (R138). -/
def execUndef4C (s : State) : Result := fallback 0x4C s

/-- 0x4D, no handler (R138). -/
def execUndef4D (s : State) : Result := fallback 0x4D s

/-- 0x4E, no handler (R138). -/
def execUndef4E (s : State) : Result := fallback 0x4E s

/-- 0x4F, no handler (R138). -/
def execUndef4F (s : State) : Result := fallback 0x4F s

/-- 0x50, no handler (R138). -/
def execUndef50 (s : State) : Result := fallback 0x50 s

/-- 0x51, no handler (R138). -/
def execUndef51 (s : State) : Result := fallback 0x51 s

/-- 0x52, no handler (R138). -/
def execUndef52 (s : State) : Result := fallback 0x52 s

/-- 0x53, no handler (R138). -/
def execUndef53 (s : State) : Result := fallback 0x53 s

/-- 0x54, no handler (R138). -/
def execUndef54 (s : State) : Result := fallback 0x54 s

/-- 0x55, no handler (R138). -/
def execUndef55 (s : State) : Result := fallback 0x55 s

/-- 0x56, no handler (R138). -/
def execUndef56 (s : State) : Result := fallback 0x56 s

/-- 0x57, no handler (R138). -/
def execUndef57 (s : State) : Result := fallback 0x57 s

/-- 0x58, no handler (R138). -/
def execUndef58 (s : State) : Result := fallback 0x58 s

/-- 0x59, no handler (R138). -/
def execUndef59 (s : State) : Result := fallback 0x59 s

/-- 0x5A, no handler (R138). -/
def execUndef5A (s : State) : Result := fallback 0x5A s

/-- 0x5B, no handler (R138). -/
def execUndef5B (s : State) : Result := fallback 0x5B s

/-- 0x5C, no handler (R138). -/
def execUndef5C (s : State) : Result := fallback 0x5C s

/-- 0x5D, no handler (R138). -/
def execUndef5D (s : State) : Result := fallback 0x5D s

/-- 0x5E, no handler (R138). -/
def execUndef5E (s : State) : Result := fallback 0x5E s

/-- 0x5F, no handler (R138). -/
def execUndef5F (s : State) : Result := fallback 0x5F s

/-- 0x60, no handler (R138). -/
def execUndef60 (s : State) : Result := fallback 0x60 s

/-- 0x61, no handler (R138). -/
def execUndef61 (s : State) : Result := fallback 0x61 s

/-- 0x62, no handler (R138). -/
def execUndef62 (s : State) : Result := fallback 0x62 s

/-- 0x63, no handler (R138). -/
def execUndef63 (s : State) : Result := fallback 0x63 s

/-- 0x64, no handler (R138). -/
def execUndef64 (s : State) : Result := fallback 0x64 s

/-- 0x65, no handler (R138). -/
def execUndef65 (s : State) : Result := fallback 0x65 s

/-- 0x66, no handler (R138). -/
def execUndef66 (s : State) : Result := fallback 0x66 s

/-- 0x67, no handler (R138). -/
def execUndef67 (s : State) : Result := fallback 0x67 s

/-- 0x68, no handler (R138). -/
def execUndef68 (s : State) : Result := fallback 0x68 s

/-- 0x69, no handler (R138). -/
def execUndef69 (s : State) : Result := fallback 0x69 s

/-- 0x6A, no handler (R138). -/
def execUndef6A (s : State) : Result := fallback 0x6A s

/-- 0x6B, no handler (R138). -/
def execUndef6B (s : State) : Result := fallback 0x6B s

/-- 0x6C, no handler (R138). -/
def execUndef6C (s : State) : Result := fallback 0x6C s

/-- 0x6D, no handler (R138). -/
def execUndef6D (s : State) : Result := fallback 0x6D s

/-- 0x6E, no handler (R138). -/
def execUndef6E (s : State) : Result := fallback 0x6E s

/-- 0x6F, no handler (R138). -/
def execUndef6F (s : State) : Result := fallback 0x6F s

/-- 0x70, no handler (R138). -/
def execUndef70 (s : State) : Result := fallback 0x70 s

/-- 0x71, no handler (R138). -/
def execUndef71 (s : State) : Result := fallback 0x71 s

/-- 0x72, no handler (R138). -/
def execUndef72 (s : State) : Result := fallback 0x72 s

/-- 0x73, no handler (R138). -/
def execUndef73 (s : State) : Result := fallback 0x73 s

/-- 0x74, no handler (R138). -/
def execUndef74 (s : State) : Result := fallback 0x74 s

/-- 0x75, no handler (R138). -/
def execUndef75 (s : State) : Result := fallback 0x75 s

/-- 0x76, no handler (R138). -/
def execUndef76 (s : State) : Result := fallback 0x76 s

/-- 0x77, no handler (R138). -/
def execUndef77 (s : State) : Result := fallback 0x77 s

/-- 0x78, no handler (R138). -/
def execUndef78 (s : State) : Result := fallback 0x78 s

/-- 0x79, no handler (R138). -/
def execUndef79 (s : State) : Result := fallback 0x79 s

/-- 0x7A, no handler (R138). -/
def execUndef7A (s : State) : Result := fallback 0x7A s

/-- 0x7B, no handler (R138). -/
def execUndef7B (s : State) : Result := fallback 0x7B s

/-- 0x7C, no handler (R138). -/
def execUndef7C (s : State) : Result := fallback 0x7C s

/-- 0x7D, no handler (R138). -/
def execUndef7D (s : State) : Result := fallback 0x7D s

/-- 0x7E, no handler (R138). -/
def execUndef7E (s : State) : Result := fallback 0x7E s

/-- 0x7F, no handler (R138). -/
def execUndef7F (s : State) : Result := fallback 0x7F s

/-- 0xC0, no handler (R138). -/
def execUndefC0 (s : State) : Result := fallback 0xC0 s

/-- 0xC1, no handler (R138). -/
def execUndefC1 (s : State) : Result := fallback 0xC1 s

/-- 0xC2, no handler (R138). -/
def execUndefC2 (s : State) : Result := fallback 0xC2 s

/-- 0xC4, no handler (R138). -/
def execUndefC4 (s : State) : Result := fallback 0xC4 s

/-- 0xC5, no handler (R138). -/
def execUndefC5 (s : State) : Result := fallback 0xC5 s

/-- 0xC7, no handler (R138). -/
def execUndefC7 (s : State) : Result := fallback 0xC7 s

/-- 0xC8, no handler (R138). -/
def execUndefC8 (s : State) : Result := fallback 0xC8 s

/-- 0xC9, no handler (R138). -/
def execUndefC9 (s : State) : Result := fallback 0xC9 s

/-- 0xCA, no handler (R138). -/
def execUndefCA (s : State) : Result := fallback 0xCA s

/-- 0xCB, no handler (R138). -/
def execUndefCB (s : State) : Result := fallback 0xCB s

/-- 0xCC, no handler (R138). -/
def execUndefCC (s : State) : Result := fallback 0xCC s

/-- 0xCD, no handler (R138). -/
def execUndefCD (s : State) : Result := fallback 0xCD s

/-- 0xCF, no handler (R138). -/
def execUndefCF (s : State) : Result := fallback 0xCF s

/-- 0xD0, no handler (R138). -/
def execUndefD0 (s : State) : Result := fallback 0xD0 s

/-- 0xD1, no handler (R138). -/
def execUndefD1 (s : State) : Result := fallback 0xD1 s

/-- 0xD2, no handler (R138). -/
def execUndefD2 (s : State) : Result := fallback 0xD2 s

/-- 0xD3, no handler (R138). -/
def execUndefD3 (s : State) : Result := fallback 0xD3 s

/-- 0xD4, no handler (R138). -/
def execUndefD4 (s : State) : Result := fallback 0xD4 s

/-- 0xD5, no handler (R138). -/
def execUndefD5 (s : State) : Result := fallback 0xD5 s

/-- 0xD7, no handler (R138). -/
def execUndefD7 (s : State) : Result := fallback 0xD7 s

/-- 0xD8, no handler (R138). -/
def execUndefD8 (s : State) : Result := fallback 0xD8 s

/-- 0xD9, no handler (R138). -/
def execUndefD9 (s : State) : Result := fallback 0xD9 s

/-- 0xDA, no handler (R138). -/
def execUndefDA (s : State) : Result := fallback 0xDA s

/-- 0xDB, no handler (R138). -/
def execUndefDB (s : State) : Result := fallback 0xDB s

/-- 0xDC, no handler (R138). -/
def execUndefDC (s : State) : Result := fallback 0xDC s

/-- 0xDD, no handler (R138). -/
def execUndefDD (s : State) : Result := fallback 0xDD s

/-- 0xDF, no handler (R138). -/
def execUndefDF (s : State) : Result := fallback 0xDF s

/-- 0xE0, no handler (R138). -/
def execUndefE0 (s : State) : Result := fallback 0xE0 s

/-- 0xE1, no handler (R138). -/
def execUndefE1 (s : State) : Result := fallback 0xE1 s

/-- 0xE2, no handler (R138). -/
def execUndefE2 (s : State) : Result := fallback 0xE2 s

/-- 0xE3, no handler (R138). -/
def execUndefE3 (s : State) : Result := fallback 0xE3 s

/-- 0xE4, no handler (R138). -/
def execUndefE4 (s : State) : Result := fallback 0xE4 s

/-- 0xE5, no handler (R138). -/
def execUndefE5 (s : State) : Result := fallback 0xE5 s

/-- 0xE7, no handler (R138). -/
def execUndefE7 (s : State) : Result := fallback 0xE7 s

/-- 0xE8, no handler (R138). -/
def execUndefE8 (s : State) : Result := fallback 0xE8 s

/-- 0xE9, no handler (R138). -/
def execUndefE9 (s : State) : Result := fallback 0xE9 s

/-- 0xEA, no handler (R138). -/
def execUndefEA (s : State) : Result := fallback 0xEA s

/-- 0xEC, no handler (R138). -/
def execUndefEC (s : State) : Result := fallback 0xEC s

/-- 0xED, no handler (R138). -/
def execUndefED (s : State) : Result := fallback 0xED s

/-- 0xEF, no handler (R138). -/
def execUndefEF (s : State) : Result := fallback 0xEF s

/-- 0xF0, no handler (R138). -/
def execUndefF0 (s : State) : Result := fallback 0xF0 s

/-- 0xF1, no handler (R138). -/
def execUndefF1 (s : State) : Result := fallback 0xF1 s

/-- 0xF2, no handler (R138). -/
def execUndefF2 (s : State) : Result := fallback 0xF2 s

/-- 0xF3, no handler (R138). -/
def execUndefF3 (s : State) : Result := fallback 0xF3 s

/-- 0xF4, no handler (R138). -/
def execUndefF4 (s : State) : Result := fallback 0xF4 s

/-- 0xF5, no handler (R138). -/
def execUndefF5 (s : State) : Result := fallback 0xF5 s

/-- 0xF7, no handler (R138). -/
def execUndefF7 (s : State) : Result := fallback 0xF7 s

/-- 0xF8, no handler (R138). -/
def execUndefF8 (s : State) : Result := fallback 0xF8 s

/-- 0xF9, no handler (R138). -/
def execUndefF9 (s : State) : Result := fallback 0xF9 s

/-- 0xFA, no handler (R138). -/
def execUndefFA (s : State) : Result := fallback 0xFA s

/-- 0xFB, no handler (R138). -/
def execUndefFB (s : State) : Result := fallback 0xFB s

/-- 0xFC, no handler (R138). -/
def execUndefFC (s : State) : Result := fallback 0xFC s

/-- 0xFD, no handler (R138). -/
def execUndefFD (s : State) : Result := fallback 0xFD s

/-- 0xFF, no handler (R138). -/
def execUndefFF (s : State) : Result := fallback 0xFF s

end Sys2Proof.Machine
end

