-- ==== Sys2Proof/Machine/Dispatch.lean ====
section
/-! DEFINITION. The dispatch multiplexer (30_encoding.md R51, R53): one arm per opcode byte, in opcode order. -/

namespace Sys2Proof.Machine

/-- The fetch-tick branch of Tick from the handler on (49_step_scheduler.md R143): the handler's effect, then PC and cnt. -/
def exec (i : Instr) (s : State) : Host.Outcome State Fault Refusal :=
  match i with
  | .undef00 => Sys2Proof.Machine.execUndef00 s
  | .undef01 => Sys2Proof.Machine.execUndef01 s
  | .undef02 => Sys2Proof.Machine.execUndef02 s
  | .undef03 => Sys2Proof.Machine.execUndef03 s
  | .undef04 => Sys2Proof.Machine.execUndef04 s
  | .undef05 => Sys2Proof.Machine.execUndef05 s
  | .undef06 => Sys2Proof.Machine.execUndef06 s
  | .rlc => Sys2Proof.Machine.execRlc s
  | .undef08 => Sys2Proof.Machine.execUndef08 s
  | .undef09 => Sys2Proof.Machine.execUndef09 s
  | .undef0A => Sys2Proof.Machine.execUndef0A s
  | .undef0B => Sys2Proof.Machine.execUndef0B s
  | .undef0C => Sys2Proof.Machine.execUndef0C s
  | .undef0D => Sys2Proof.Machine.execUndef0D s
  | .undef0E => Sys2Proof.Machine.execUndef0E s
  | .rrc => Sys2Proof.Machine.execRrc s
  | .undef10 => Sys2Proof.Machine.execUndef10 s
  | .undef11 => Sys2Proof.Machine.execUndef11 s
  | .undef12 => Sys2Proof.Machine.execUndef12 s
  | .undef13 => Sys2Proof.Machine.execUndef13 s
  | .undef14 => Sys2Proof.Machine.execUndef14 s
  | .undef15 => Sys2Proof.Machine.execUndef15 s
  | .undef16 => Sys2Proof.Machine.execUndef16 s
  | .ral => Sys2Proof.Machine.execRal s
  | .undef18 => Sys2Proof.Machine.execUndef18 s
  | .undef19 => Sys2Proof.Machine.execUndef19 s
  | .undef1A => Sys2Proof.Machine.execUndef1A s
  | .undef1B => Sys2Proof.Machine.execUndef1B s
  | .undef1C => Sys2Proof.Machine.execUndef1C s
  | .undef1D => Sys2Proof.Machine.execUndef1D s
  | .undef1E => Sys2Proof.Machine.execUndef1E s
  | .rar => Sys2Proof.Machine.execRar s
  | .undef20 => Sys2Proof.Machine.execUndef20 s
  | .undef21 => Sys2Proof.Machine.execUndef21 s
  | .shld a16 => Sys2Proof.Machine.execShld a16 s
  | .undef23 => Sys2Proof.Machine.execUndef23 s
  | .undef24 => Sys2Proof.Machine.execUndef24 s
  | .undef25 => Sys2Proof.Machine.execUndef25 s
  | .undef26 => Sys2Proof.Machine.execUndef26 s
  | .daa => Sys2Proof.Machine.execDaa s
  | .undef28 => Sys2Proof.Machine.execUndef28 s
  | .undef29 => Sys2Proof.Machine.execUndef29 s
  | .lhld a16 => Sys2Proof.Machine.execLhld a16 s
  | .undef2B => Sys2Proof.Machine.execUndef2B s
  | .undef2C => Sys2Proof.Machine.execUndef2C s
  | .undef2D => Sys2Proof.Machine.execUndef2D s
  | .undef2E => Sys2Proof.Machine.execUndef2E s
  | .cma => Sys2Proof.Machine.execCma s
  | .undef30 => Sys2Proof.Machine.execUndef30 s
  | .undef31 => Sys2Proof.Machine.execUndef31 s
  | .sta a16 => Sys2Proof.Machine.execSta a16 s
  | .undef33 => Sys2Proof.Machine.execUndef33 s
  | .undef34 => Sys2Proof.Machine.execUndef34 s
  | .undef35 => Sys2Proof.Machine.execUndef35 s
  | .mviM d8 => Sys2Proof.Machine.execMviM d8 s
  | .stc => Sys2Proof.Machine.execStc s
  | .undef38 => Sys2Proof.Machine.execUndef38 s
  | .undef39 => Sys2Proof.Machine.execUndef39 s
  | .lda a16 => Sys2Proof.Machine.execLda a16 s
  | .undef3B => Sys2Proof.Machine.execUndef3B s
  | .undef3C => Sys2Proof.Machine.execUndef3C s
  | .undef3D => Sys2Proof.Machine.execUndef3D s
  | .undef3E => Sys2Proof.Machine.execUndef3E s
  | .cmc => Sys2Proof.Machine.execCmc s
  | .undef40 => Sys2Proof.Machine.execUndef40 s
  | .undef41 => Sys2Proof.Machine.execUndef41 s
  | .undef42 => Sys2Proof.Machine.execUndef42 s
  | .undef43 => Sys2Proof.Machine.execUndef43 s
  | .undef44 => Sys2Proof.Machine.execUndef44 s
  | .undef45 => Sys2Proof.Machine.execUndef45 s
  | .undef46 => Sys2Proof.Machine.execUndef46 s
  | .undef47 => Sys2Proof.Machine.execUndef47 s
  | .undef48 => Sys2Proof.Machine.execUndef48 s
  | .undef49 => Sys2Proof.Machine.execUndef49 s
  | .undef4A => Sys2Proof.Machine.execUndef4A s
  | .undef4B => Sys2Proof.Machine.execUndef4B s
  | .undef4C => Sys2Proof.Machine.execUndef4C s
  | .undef4D => Sys2Proof.Machine.execUndef4D s
  | .undef4E => Sys2Proof.Machine.execUndef4E s
  | .undef4F => Sys2Proof.Machine.execUndef4F s
  | .undef50 => Sys2Proof.Machine.execUndef50 s
  | .undef51 => Sys2Proof.Machine.execUndef51 s
  | .undef52 => Sys2Proof.Machine.execUndef52 s
  | .undef53 => Sys2Proof.Machine.execUndef53 s
  | .undef54 => Sys2Proof.Machine.execUndef54 s
  | .undef55 => Sys2Proof.Machine.execUndef55 s
  | .undef56 => Sys2Proof.Machine.execUndef56 s
  | .undef57 => Sys2Proof.Machine.execUndef57 s
  | .undef58 => Sys2Proof.Machine.execUndef58 s
  | .undef59 => Sys2Proof.Machine.execUndef59 s
  | .undef5A => Sys2Proof.Machine.execUndef5A s
  | .undef5B => Sys2Proof.Machine.execUndef5B s
  | .undef5C => Sys2Proof.Machine.execUndef5C s
  | .undef5D => Sys2Proof.Machine.execUndef5D s
  | .undef5E => Sys2Proof.Machine.execUndef5E s
  | .undef5F => Sys2Proof.Machine.execUndef5F s
  | .undef60 => Sys2Proof.Machine.execUndef60 s
  | .undef61 => Sys2Proof.Machine.execUndef61 s
  | .undef62 => Sys2Proof.Machine.execUndef62 s
  | .undef63 => Sys2Proof.Machine.execUndef63 s
  | .undef64 => Sys2Proof.Machine.execUndef64 s
  | .undef65 => Sys2Proof.Machine.execUndef65 s
  | .undef66 => Sys2Proof.Machine.execUndef66 s
  | .undef67 => Sys2Proof.Machine.execUndef67 s
  | .undef68 => Sys2Proof.Machine.execUndef68 s
  | .undef69 => Sys2Proof.Machine.execUndef69 s
  | .undef6A => Sys2Proof.Machine.execUndef6A s
  | .undef6B => Sys2Proof.Machine.execUndef6B s
  | .undef6C => Sys2Proof.Machine.execUndef6C s
  | .undef6D => Sys2Proof.Machine.execUndef6D s
  | .undef6E => Sys2Proof.Machine.execUndef6E s
  | .undef6F => Sys2Proof.Machine.execUndef6F s
  | .undef70 => Sys2Proof.Machine.execUndef70 s
  | .undef71 => Sys2Proof.Machine.execUndef71 s
  | .undef72 => Sys2Proof.Machine.execUndef72 s
  | .undef73 => Sys2Proof.Machine.execUndef73 s
  | .undef74 => Sys2Proof.Machine.execUndef74 s
  | .undef75 => Sys2Proof.Machine.execUndef75 s
  | .undef76 => Sys2Proof.Machine.execUndef76 s
  | .undef77 => Sys2Proof.Machine.execUndef77 s
  | .undef78 => Sys2Proof.Machine.execUndef78 s
  | .undef79 => Sys2Proof.Machine.execUndef79 s
  | .undef7A => Sys2Proof.Machine.execUndef7A s
  | .undef7B => Sys2Proof.Machine.execUndef7B s
  | .undef7C => Sys2Proof.Machine.execUndef7C s
  | .undef7D => Sys2Proof.Machine.execUndef7D s
  | .undef7E => Sys2Proof.Machine.execUndef7E s
  | .undef7F => Sys2Proof.Machine.execUndef7F s
  | .addB => Sys2Proof.Machine.execAddB s
  | .addC => Sys2Proof.Machine.execAddC s
  | .addD => Sys2Proof.Machine.execAddD s
  | .addE => Sys2Proof.Machine.execAddE s
  | .addH => Sys2Proof.Machine.execAddH s
  | .addL => Sys2Proof.Machine.execAddL s
  | .addM => Sys2Proof.Machine.execAddM s
  | .addA => Sys2Proof.Machine.execAddA s
  | .adcB => Sys2Proof.Machine.execAdcB s
  | .adcC => Sys2Proof.Machine.execAdcC s
  | .adcD => Sys2Proof.Machine.execAdcD s
  | .adcE => Sys2Proof.Machine.execAdcE s
  | .adcH => Sys2Proof.Machine.execAdcH s
  | .adcL => Sys2Proof.Machine.execAdcL s
  | .adcM => Sys2Proof.Machine.execAdcM s
  | .adcA => Sys2Proof.Machine.execAdcA s
  | .subB => Sys2Proof.Machine.execSubB s
  | .subC => Sys2Proof.Machine.execSubC s
  | .subD => Sys2Proof.Machine.execSubD s
  | .subE => Sys2Proof.Machine.execSubE s
  | .subH => Sys2Proof.Machine.execSubH s
  | .subL => Sys2Proof.Machine.execSubL s
  | .subM => Sys2Proof.Machine.execSubM s
  | .subA => Sys2Proof.Machine.execSubA s
  | .sbbB => Sys2Proof.Machine.execSbbB s
  | .sbbC => Sys2Proof.Machine.execSbbC s
  | .sbbD => Sys2Proof.Machine.execSbbD s
  | .sbbE => Sys2Proof.Machine.execSbbE s
  | .sbbH => Sys2Proof.Machine.execSbbH s
  | .sbbL => Sys2Proof.Machine.execSbbL s
  | .sbbM => Sys2Proof.Machine.execSbbM s
  | .sbbA => Sys2Proof.Machine.execSbbA s
  | .anaB => Sys2Proof.Machine.execAnaB s
  | .anaC => Sys2Proof.Machine.execAnaC s
  | .anaD => Sys2Proof.Machine.execAnaD s
  | .anaE => Sys2Proof.Machine.execAnaE s
  | .anaH => Sys2Proof.Machine.execAnaH s
  | .anaL => Sys2Proof.Machine.execAnaL s
  | .anaM => Sys2Proof.Machine.execAnaM s
  | .anaA => Sys2Proof.Machine.execAnaA s
  | .xraB => Sys2Proof.Machine.execXraB s
  | .xraC => Sys2Proof.Machine.execXraC s
  | .xraD => Sys2Proof.Machine.execXraD s
  | .xraE => Sys2Proof.Machine.execXraE s
  | .xraH => Sys2Proof.Machine.execXraH s
  | .xraL => Sys2Proof.Machine.execXraL s
  | .xraM => Sys2Proof.Machine.execXraM s
  | .xraA => Sys2Proof.Machine.execXraA s
  | .oraB => Sys2Proof.Machine.execOraB s
  | .oraC => Sys2Proof.Machine.execOraC s
  | .oraD => Sys2Proof.Machine.execOraD s
  | .oraE => Sys2Proof.Machine.execOraE s
  | .oraH => Sys2Proof.Machine.execOraH s
  | .oraL => Sys2Proof.Machine.execOraL s
  | .oraM => Sys2Proof.Machine.execOraM s
  | .oraA => Sys2Proof.Machine.execOraA s
  | .cmpB => Sys2Proof.Machine.execCmpB s
  | .cmpC => Sys2Proof.Machine.execCmpC s
  | .cmpD => Sys2Proof.Machine.execCmpD s
  | .cmpE => Sys2Proof.Machine.execCmpE s
  | .cmpH => Sys2Proof.Machine.execCmpH s
  | .cmpL => Sys2Proof.Machine.execCmpL s
  | .cmpM => Sys2Proof.Machine.execCmpM s
  | .cmpA => Sys2Proof.Machine.execCmpA s
  | .undefC0 => Sys2Proof.Machine.execUndefC0 s
  | .undefC1 => Sys2Proof.Machine.execUndefC1 s
  | .undefC2 => Sys2Proof.Machine.execUndefC2 s
  | .jmp a16 => Sys2Proof.Machine.execJmp a16 s
  | .undefC4 => Sys2Proof.Machine.execUndefC4 s
  | .undefC5 => Sys2Proof.Machine.execUndefC5 s
  | .adi d8 => Sys2Proof.Machine.execAdi d8 s
  | .undefC7 => Sys2Proof.Machine.execUndefC7 s
  | .undefC8 => Sys2Proof.Machine.execUndefC8 s
  | .undefC9 => Sys2Proof.Machine.execUndefC9 s
  | .undefCA => Sys2Proof.Machine.execUndefCA s
  | .undefCB => Sys2Proof.Machine.execUndefCB s
  | .undefCC => Sys2Proof.Machine.execUndefCC s
  | .undefCD => Sys2Proof.Machine.execUndefCD s
  | .aci d8 => Sys2Proof.Machine.execAci d8 s
  | .undefCF => Sys2Proof.Machine.execUndefCF s
  | .undefD0 => Sys2Proof.Machine.execUndefD0 s
  | .undefD1 => Sys2Proof.Machine.execUndefD1 s
  | .undefD2 => Sys2Proof.Machine.execUndefD2 s
  | .undefD3 => Sys2Proof.Machine.execUndefD3 s
  | .undefD4 => Sys2Proof.Machine.execUndefD4 s
  | .undefD5 => Sys2Proof.Machine.execUndefD5 s
  | .sui d8 => Sys2Proof.Machine.execSui d8 s
  | .undefD7 => Sys2Proof.Machine.execUndefD7 s
  | .undefD8 => Sys2Proof.Machine.execUndefD8 s
  | .undefD9 => Sys2Proof.Machine.execUndefD9 s
  | .undefDA => Sys2Proof.Machine.execUndefDA s
  | .undefDB => Sys2Proof.Machine.execUndefDB s
  | .undefDC => Sys2Proof.Machine.execUndefDC s
  | .undefDD => Sys2Proof.Machine.execUndefDD s
  | .sbi d8 => Sys2Proof.Machine.execSbi d8 s
  | .undefDF => Sys2Proof.Machine.execUndefDF s
  | .undefE0 => Sys2Proof.Machine.execUndefE0 s
  | .undefE1 => Sys2Proof.Machine.execUndefE1 s
  | .undefE2 => Sys2Proof.Machine.execUndefE2 s
  | .undefE3 => Sys2Proof.Machine.execUndefE3 s
  | .undefE4 => Sys2Proof.Machine.execUndefE4 s
  | .undefE5 => Sys2Proof.Machine.execUndefE5 s
  | .ani d8 => Sys2Proof.Machine.execAni d8 s
  | .undefE7 => Sys2Proof.Machine.execUndefE7 s
  | .undefE8 => Sys2Proof.Machine.execUndefE8 s
  | .undefE9 => Sys2Proof.Machine.execUndefE9 s
  | .undefEA => Sys2Proof.Machine.execUndefEA s
  | .xchg => Sys2Proof.Machine.execXchg s
  | .undefEC => Sys2Proof.Machine.execUndefEC s
  | .undefED => Sys2Proof.Machine.execUndefED s
  | .xri d8 => Sys2Proof.Machine.execXri d8 s
  | .undefEF => Sys2Proof.Machine.execUndefEF s
  | .undefF0 => Sys2Proof.Machine.execUndefF0 s
  | .undefF1 => Sys2Proof.Machine.execUndefF1 s
  | .undefF2 => Sys2Proof.Machine.execUndefF2 s
  | .undefF3 => Sys2Proof.Machine.execUndefF3 s
  | .undefF4 => Sys2Proof.Machine.execUndefF4 s
  | .undefF5 => Sys2Proof.Machine.execUndefF5 s
  | .ori d8 => Sys2Proof.Machine.execOri d8 s
  | .undefF7 => Sys2Proof.Machine.execUndefF7 s
  | .undefF8 => Sys2Proof.Machine.execUndefF8 s
  | .undefF9 => Sys2Proof.Machine.execUndefF9 s
  | .undefFA => Sys2Proof.Machine.execUndefFA s
  | .undefFB => Sys2Proof.Machine.execUndefFB s
  | .undefFC => Sys2Proof.Machine.execUndefFC s
  | .undefFD => Sys2Proof.Machine.execUndefFD s
  | .cpi d8 => Sys2Proof.Machine.execCpi d8 s
  | .undefFF => Sys2Proof.Machine.execUndefFF s

end Sys2Proof.Machine
end

