-- ==== Sys2Proof/WellFormed.lean ====
section
/-! DEFINITION. Well-formedness. A term of `Instr` carries its operands at their own widths, so none is ill formed and no
check on terms is left to make: `Instr.wellFormed` is true of every term. What can be ill formed is a byte string that claims
to be one instruction (30_encoding.md R45, R52): `wellFormedBytes` checks that. -/

namespace Sys2Proof

/-- Every term is an instruction of the hardware: an 8-bit d8, a 16-bit a16, a register operand that is never code 6. -/
def Instr.wellFormed (_ : Instr) : Bool := true

/-- The byte string is exactly one instruction: an opcode byte and its LEN[op] - 1 operand bytes (R45, R52). It refuses the
empty string, a truncated instruction and bytes left over. -/
def wellFormedBytes : List Byte → Bool
  | [] => false
  | op :: operands => operands.length + 1 == Machine.lenOf op

end Sys2Proof
end

