-- ==== Sys2Proof/Decode.lean ====
section
/-! DEFINITION. Decoding and encoding (30_encoding.md). The decoder is the opcode map read as a table of 256 entries in opcode
order; the encoder is a table by constructor, written on its own. Both are total; a byte string that holds no whole
instruction is rejected by name. -/

namespace Sys2Proof

open Sys2Proof.Machine

/-- The opcode map (R50, R51), opcode bytes 0x00 to 0x0F, with the operands the next bytes hold. -/
def mapRow0 (_d8 : Byte) (_a16 : Word) : List Instr :=
  [.undef00, .undef01, .undef02, .undef03, .undef04, .undef05, .undef06, .rlc,
   .undef08, .undef09, .undef0A, .undef0B, .undef0C, .undef0D, .undef0E, .rrc]

/-- The opcode map (R50, R51), opcode bytes 0x10 to 0x1F, with the operands the next bytes hold. -/
def mapRow1 (_d8 : Byte) (_a16 : Word) : List Instr :=
  [.undef10, .undef11, .undef12, .undef13, .undef14, .undef15, .undef16, .ral,
   .undef18, .undef19, .undef1A, .undef1B, .undef1C, .undef1D, .undef1E, .rar]

/-- The opcode map (R50, R51), opcode bytes 0x20 to 0x2F, with the operands the next bytes hold. -/
def mapRow2 (_d8 : Byte) (a16 : Word) : List Instr :=
  [.undef20, .undef21, .shld a16, .undef23, .undef24, .undef25, .undef26, .daa,
   .undef28, .undef29, .lhld a16, .undef2B, .undef2C, .undef2D, .undef2E, .cma]

/-- The opcode map (R50, R51), opcode bytes 0x30 to 0x3F, with the operands the next bytes hold. -/
def mapRow3 (d8 : Byte) (a16 : Word) : List Instr :=
  [.undef30, .undef31, .sta a16, .undef33, .undef34, .undef35, .mviM d8, .stc,
   .undef38, .undef39, .lda a16, .undef3B, .undef3C, .undef3D, .undef3E, .cmc]

/-- The opcode map (R50, R51), opcode bytes 0x40 to 0x4F, with the operands the next bytes hold. -/
def mapRow4 (_d8 : Byte) (_a16 : Word) : List Instr :=
  [.undef40, .undef41, .undef42, .undef43, .undef44, .undef45, .undef46, .undef47,
   .undef48, .undef49, .undef4A, .undef4B, .undef4C, .undef4D, .undef4E, .undef4F]

/-- The opcode map (R50, R51), opcode bytes 0x50 to 0x5F, with the operands the next bytes hold. -/
def mapRow5 (_d8 : Byte) (_a16 : Word) : List Instr :=
  [.undef50, .undef51, .undef52, .undef53, .undef54, .undef55, .undef56, .undef57,
   .undef58, .undef59, .undef5A, .undef5B, .undef5C, .undef5D, .undef5E, .undef5F]

/-- The opcode map (R50, R51), opcode bytes 0x60 to 0x6F, with the operands the next bytes hold. -/
def mapRow6 (_d8 : Byte) (_a16 : Word) : List Instr :=
  [.undef60, .undef61, .undef62, .undef63, .undef64, .undef65, .undef66, .undef67,
   .undef68, .undef69, .undef6A, .undef6B, .undef6C, .undef6D, .undef6E, .undef6F]

/-- The opcode map (R50, R51), opcode bytes 0x70 to 0x7F, with the operands the next bytes hold. -/
def mapRow7 (_d8 : Byte) (_a16 : Word) : List Instr :=
  [.undef70, .undef71, .undef72, .undef73, .undef74, .undef75, .undef76, .undef77,
   .undef78, .undef79, .undef7A, .undef7B, .undef7C, .undef7D, .undef7E, .undef7F]

/-- The opcode map (R50, R51), opcode bytes 0x80 to 0x8F, with the operands the next bytes hold. -/
def mapRow8 (_d8 : Byte) (_a16 : Word) : List Instr :=
  [.addB, .addC, .addD, .addE, .addH, .addL, .addM, .addA,
   .adcB, .adcC, .adcD, .adcE, .adcH, .adcL, .adcM, .adcA]

/-- The opcode map (R50, R51), opcode bytes 0x90 to 0x9F, with the operands the next bytes hold. -/
def mapRow9 (_d8 : Byte) (_a16 : Word) : List Instr :=
  [.subB, .subC, .subD, .subE, .subH, .subL, .subM, .subA,
   .sbbB, .sbbC, .sbbD, .sbbE, .sbbH, .sbbL, .sbbM, .sbbA]

/-- The opcode map (R50, R51), opcode bytes 0xA0 to 0xAF, with the operands the next bytes hold. -/
def mapRowA (_d8 : Byte) (_a16 : Word) : List Instr :=
  [.anaB, .anaC, .anaD, .anaE, .anaH, .anaL, .anaM, .anaA,
   .xraB, .xraC, .xraD, .xraE, .xraH, .xraL, .xraM, .xraA]

/-- The opcode map (R50, R51), opcode bytes 0xB0 to 0xBF, with the operands the next bytes hold. -/
def mapRowB (_d8 : Byte) (_a16 : Word) : List Instr :=
  [.oraB, .oraC, .oraD, .oraE, .oraH, .oraL, .oraM, .oraA,
   .cmpB, .cmpC, .cmpD, .cmpE, .cmpH, .cmpL, .cmpM, .cmpA]

/-- The opcode map (R50, R51), opcode bytes 0xC0 to 0xCF, with the operands the next bytes hold. -/
def mapRowC (d8 : Byte) (a16 : Word) : List Instr :=
  [.undefC0, .undefC1, .undefC2, .jmp a16, .undefC4, .undefC5, .adi d8, .undefC7,
   .undefC8, .undefC9, .undefCA, .undefCB, .undefCC, .undefCD, .aci d8, .undefCF]

/-- The opcode map (R50, R51), opcode bytes 0xD0 to 0xDF, with the operands the next bytes hold. -/
def mapRowD (d8 : Byte) (_a16 : Word) : List Instr :=
  [.undefD0, .undefD1, .undefD2, .undefD3, .undefD4, .undefD5, .sui d8, .undefD7,
   .undefD8, .undefD9, .undefDA, .undefDB, .undefDC, .undefDD, .sbi d8, .undefDF]

/-- The opcode map (R50, R51), opcode bytes 0xE0 to 0xEF, with the operands the next bytes hold. -/
def mapRowE (d8 : Byte) (_a16 : Word) : List Instr :=
  [.undefE0, .undefE1, .undefE2, .undefE3, .undefE4, .undefE5, .ani d8, .undefE7,
   .undefE8, .undefE9, .undefEA, .xchg, .undefEC, .undefED, .xri d8, .undefEF]

/-- The opcode map (R50, R51), opcode bytes 0xF0 to 0xFF, with the operands the next bytes hold. -/
def mapRowF (d8 : Byte) (_a16 : Word) : List Instr :=
  [.undefF0, .undefF1, .undefF2, .undefF3, .undefF4, .undefF5, .ori d8, .undefF7,
   .undefF8, .undefF9, .undefFA, .undefFB, .undefFC, .undefFD, .cpi d8, .undefFF]

/-- The opcode map of R50 and R51: all 256 bytes, a row for each high nibble. -/
def opcodeMap (d8 : Byte) (a16 : Word) : List (List Instr) :=
  [mapRow0 d8 a16, mapRow1 d8 a16, mapRow2 d8 a16, mapRow3 d8 a16,
   mapRow4 d8 a16, mapRow5 d8 a16, mapRow6 d8 a16, mapRow7 d8 a16,
   mapRow8 d8 a16, mapRow9 d8 a16, mapRowA d8 a16, mapRowB d8 a16,
   mapRowC d8 a16, mapRowD d8 a16, mapRowE d8 a16, mapRowF d8 a16]

/-- The instruction whose bytes are `op`, `b2`, `b3`, as far as its length reaches (R45, R47): d8 is the next byte, a16 the
next two, low byte first. Total over the 256 opcode bytes (R51). -/
def decodeBytes (op b2 b3 : Byte) : Instr :=
  tableAt (opcodeMap b2 (joinBytes b3 b2)) op .undef00

/-- Why a byte string holds no instruction. -/
inductive DecodeError where
  | noBytes                              -- the byte string is empty
  | missingOperand (op : Byte) (got need : Nat)  -- fewer bytes than LEN[op]
deriving DecidableEq, Repr

/-- Reads one instruction off the front of a byte string and gives the bytes after it. -/
def decode (bytes : List Byte) : Except DecodeError (Instr × List Byte) :=
  match bytes with
  | [] => .error .noBytes
  | op :: rest =>
    if rest.length + 1 < lenOf op then .error (.missingOperand op (rest.length + 1) (lenOf op))
    else .ok (decodeBytes op (rest.getD 0 0) (rest.getD 1 0), rest.drop (lenOf op - 1))

/-- The opcode byte of an instruction (R46, R50, R51). -/
def Instr.opcode : Instr → Byte
  | .undef00 => 0x00
  | .undef01 => 0x01
  | .undef02 => 0x02
  | .undef03 => 0x03
  | .undef04 => 0x04
  | .undef05 => 0x05
  | .undef06 => 0x06
  | .rlc => 0x07
  | .undef08 => 0x08
  | .undef09 => 0x09
  | .undef0A => 0x0A
  | .undef0B => 0x0B
  | .undef0C => 0x0C
  | .undef0D => 0x0D
  | .undef0E => 0x0E
  | .rrc => 0x0F
  | .undef10 => 0x10
  | .undef11 => 0x11
  | .undef12 => 0x12
  | .undef13 => 0x13
  | .undef14 => 0x14
  | .undef15 => 0x15
  | .undef16 => 0x16
  | .ral => 0x17
  | .undef18 => 0x18
  | .undef19 => 0x19
  | .undef1A => 0x1A
  | .undef1B => 0x1B
  | .undef1C => 0x1C
  | .undef1D => 0x1D
  | .undef1E => 0x1E
  | .rar => 0x1F
  | .undef20 => 0x20
  | .undef21 => 0x21
  | .shld _ => 0x22
  | .undef23 => 0x23
  | .undef24 => 0x24
  | .undef25 => 0x25
  | .undef26 => 0x26
  | .daa => 0x27
  | .undef28 => 0x28
  | .undef29 => 0x29
  | .lhld _ => 0x2A
  | .undef2B => 0x2B
  | .undef2C => 0x2C
  | .undef2D => 0x2D
  | .undef2E => 0x2E
  | .cma => 0x2F
  | .undef30 => 0x30
  | .undef31 => 0x31
  | .sta _ => 0x32
  | .undef33 => 0x33
  | .undef34 => 0x34
  | .undef35 => 0x35
  | .mviM _ => 0x36
  | .stc => 0x37
  | .undef38 => 0x38
  | .undef39 => 0x39
  | .lda _ => 0x3A
  | .undef3B => 0x3B
  | .undef3C => 0x3C
  | .undef3D => 0x3D
  | .undef3E => 0x3E
  | .cmc => 0x3F
  | .undef40 => 0x40
  | .undef41 => 0x41
  | .undef42 => 0x42
  | .undef43 => 0x43
  | .undef44 => 0x44
  | .undef45 => 0x45
  | .undef46 => 0x46
  | .undef47 => 0x47
  | .undef48 => 0x48
  | .undef49 => 0x49
  | .undef4A => 0x4A
  | .undef4B => 0x4B
  | .undef4C => 0x4C
  | .undef4D => 0x4D
  | .undef4E => 0x4E
  | .undef4F => 0x4F
  | .undef50 => 0x50
  | .undef51 => 0x51
  | .undef52 => 0x52
  | .undef53 => 0x53
  | .undef54 => 0x54
  | .undef55 => 0x55
  | .undef56 => 0x56
  | .undef57 => 0x57
  | .undef58 => 0x58
  | .undef59 => 0x59
  | .undef5A => 0x5A
  | .undef5B => 0x5B
  | .undef5C => 0x5C
  | .undef5D => 0x5D
  | .undef5E => 0x5E
  | .undef5F => 0x5F
  | .undef60 => 0x60
  | .undef61 => 0x61
  | .undef62 => 0x62
  | .undef63 => 0x63
  | .undef64 => 0x64
  | .undef65 => 0x65
  | .undef66 => 0x66
  | .undef67 => 0x67
  | .undef68 => 0x68
  | .undef69 => 0x69
  | .undef6A => 0x6A
  | .undef6B => 0x6B
  | .undef6C => 0x6C
  | .undef6D => 0x6D
  | .undef6E => 0x6E
  | .undef6F => 0x6F
  | .undef70 => 0x70
  | .undef71 => 0x71
  | .undef72 => 0x72
  | .undef73 => 0x73
  | .undef74 => 0x74
  | .undef75 => 0x75
  | .undef76 => 0x76
  | .undef77 => 0x77
  | .undef78 => 0x78
  | .undef79 => 0x79
  | .undef7A => 0x7A
  | .undef7B => 0x7B
  | .undef7C => 0x7C
  | .undef7D => 0x7D
  | .undef7E => 0x7E
  | .undef7F => 0x7F
  | .addB => 0x80
  | .addC => 0x81
  | .addD => 0x82
  | .addE => 0x83
  | .addH => 0x84
  | .addL => 0x85
  | .addM => 0x86
  | .addA => 0x87
  | .adcB => 0x88
  | .adcC => 0x89
  | .adcD => 0x8A
  | .adcE => 0x8B
  | .adcH => 0x8C
  | .adcL => 0x8D
  | .adcM => 0x8E
  | .adcA => 0x8F
  | .subB => 0x90
  | .subC => 0x91
  | .subD => 0x92
  | .subE => 0x93
  | .subH => 0x94
  | .subL => 0x95
  | .subM => 0x96
  | .subA => 0x97
  | .sbbB => 0x98
  | .sbbC => 0x99
  | .sbbD => 0x9A
  | .sbbE => 0x9B
  | .sbbH => 0x9C
  | .sbbL => 0x9D
  | .sbbM => 0x9E
  | .sbbA => 0x9F
  | .anaB => 0xA0
  | .anaC => 0xA1
  | .anaD => 0xA2
  | .anaE => 0xA3
  | .anaH => 0xA4
  | .anaL => 0xA5
  | .anaM => 0xA6
  | .anaA => 0xA7
  | .xraB => 0xA8
  | .xraC => 0xA9
  | .xraD => 0xAA
  | .xraE => 0xAB
  | .xraH => 0xAC
  | .xraL => 0xAD
  | .xraM => 0xAE
  | .xraA => 0xAF
  | .oraB => 0xB0
  | .oraC => 0xB1
  | .oraD => 0xB2
  | .oraE => 0xB3
  | .oraH => 0xB4
  | .oraL => 0xB5
  | .oraM => 0xB6
  | .oraA => 0xB7
  | .cmpB => 0xB8
  | .cmpC => 0xB9
  | .cmpD => 0xBA
  | .cmpE => 0xBB
  | .cmpH => 0xBC
  | .cmpL => 0xBD
  | .cmpM => 0xBE
  | .cmpA => 0xBF
  | .undefC0 => 0xC0
  | .undefC1 => 0xC1
  | .undefC2 => 0xC2
  | .jmp _ => 0xC3
  | .undefC4 => 0xC4
  | .undefC5 => 0xC5
  | .adi _ => 0xC6
  | .undefC7 => 0xC7
  | .undefC8 => 0xC8
  | .undefC9 => 0xC9
  | .undefCA => 0xCA
  | .undefCB => 0xCB
  | .undefCC => 0xCC
  | .undefCD => 0xCD
  | .aci _ => 0xCE
  | .undefCF => 0xCF
  | .undefD0 => 0xD0
  | .undefD1 => 0xD1
  | .undefD2 => 0xD2
  | .undefD3 => 0xD3
  | .undefD4 => 0xD4
  | .undefD5 => 0xD5
  | .sui _ => 0xD6
  | .undefD7 => 0xD7
  | .undefD8 => 0xD8
  | .undefD9 => 0xD9
  | .undefDA => 0xDA
  | .undefDB => 0xDB
  | .undefDC => 0xDC
  | .undefDD => 0xDD
  | .sbi _ => 0xDE
  | .undefDF => 0xDF
  | .undefE0 => 0xE0
  | .undefE1 => 0xE1
  | .undefE2 => 0xE2
  | .undefE3 => 0xE3
  | .undefE4 => 0xE4
  | .undefE5 => 0xE5
  | .ani _ => 0xE6
  | .undefE7 => 0xE7
  | .undefE8 => 0xE8
  | .undefE9 => 0xE9
  | .undefEA => 0xEA
  | .xchg => 0xEB
  | .undefEC => 0xEC
  | .undefED => 0xED
  | .xri _ => 0xEE
  | .undefEF => 0xEF
  | .undefF0 => 0xF0
  | .undefF1 => 0xF1
  | .undefF2 => 0xF2
  | .undefF3 => 0xF3
  | .undefF4 => 0xF4
  | .undefF5 => 0xF5
  | .ori _ => 0xF6
  | .undefF7 => 0xF7
  | .undefF8 => 0xF8
  | .undefF9 => 0xF9
  | .undefFA => 0xFA
  | .undefFB => 0xFB
  | .undefFC => 0xFC
  | .undefFD => 0xFD
  | .cpi _ => 0xFE
  | .undefFF => 0xFF

/-- The operand bytes that follow the opcode, low byte first (R45, R47). -/
def Instr.operandBytes : Instr → List Byte
  | .undef00 => []
  | .undef01 => []
  | .undef02 => []
  | .undef03 => []
  | .undef04 => []
  | .undef05 => []
  | .undef06 => []
  | .rlc => []
  | .undef08 => []
  | .undef09 => []
  | .undef0A => []
  | .undef0B => []
  | .undef0C => []
  | .undef0D => []
  | .undef0E => []
  | .rrc => []
  | .undef10 => []
  | .undef11 => []
  | .undef12 => []
  | .undef13 => []
  | .undef14 => []
  | .undef15 => []
  | .undef16 => []
  | .ral => []
  | .undef18 => []
  | .undef19 => []
  | .undef1A => []
  | .undef1B => []
  | .undef1C => []
  | .undef1D => []
  | .undef1E => []
  | .rar => []
  | .undef20 => []
  | .undef21 => []
  | .shld a16 => [lowByte a16, highByte a16]
  | .undef23 => []
  | .undef24 => []
  | .undef25 => []
  | .undef26 => []
  | .daa => []
  | .undef28 => []
  | .undef29 => []
  | .lhld a16 => [lowByte a16, highByte a16]
  | .undef2B => []
  | .undef2C => []
  | .undef2D => []
  | .undef2E => []
  | .cma => []
  | .undef30 => []
  | .undef31 => []
  | .sta a16 => [lowByte a16, highByte a16]
  | .undef33 => []
  | .undef34 => []
  | .undef35 => []
  | .mviM d8 => [d8]
  | .stc => []
  | .undef38 => []
  | .undef39 => []
  | .lda a16 => [lowByte a16, highByte a16]
  | .undef3B => []
  | .undef3C => []
  | .undef3D => []
  | .undef3E => []
  | .cmc => []
  | .undef40 => []
  | .undef41 => []
  | .undef42 => []
  | .undef43 => []
  | .undef44 => []
  | .undef45 => []
  | .undef46 => []
  | .undef47 => []
  | .undef48 => []
  | .undef49 => []
  | .undef4A => []
  | .undef4B => []
  | .undef4C => []
  | .undef4D => []
  | .undef4E => []
  | .undef4F => []
  | .undef50 => []
  | .undef51 => []
  | .undef52 => []
  | .undef53 => []
  | .undef54 => []
  | .undef55 => []
  | .undef56 => []
  | .undef57 => []
  | .undef58 => []
  | .undef59 => []
  | .undef5A => []
  | .undef5B => []
  | .undef5C => []
  | .undef5D => []
  | .undef5E => []
  | .undef5F => []
  | .undef60 => []
  | .undef61 => []
  | .undef62 => []
  | .undef63 => []
  | .undef64 => []
  | .undef65 => []
  | .undef66 => []
  | .undef67 => []
  | .undef68 => []
  | .undef69 => []
  | .undef6A => []
  | .undef6B => []
  | .undef6C => []
  | .undef6D => []
  | .undef6E => []
  | .undef6F => []
  | .undef70 => []
  | .undef71 => []
  | .undef72 => []
  | .undef73 => []
  | .undef74 => []
  | .undef75 => []
  | .undef76 => []
  | .undef77 => []
  | .undef78 => []
  | .undef79 => []
  | .undef7A => []
  | .undef7B => []
  | .undef7C => []
  | .undef7D => []
  | .undef7E => []
  | .undef7F => []
  | .addB => []
  | .addC => []
  | .addD => []
  | .addE => []
  | .addH => []
  | .addL => []
  | .addM => []
  | .addA => []
  | .adcB => []
  | .adcC => []
  | .adcD => []
  | .adcE => []
  | .adcH => []
  | .adcL => []
  | .adcM => []
  | .adcA => []
  | .subB => []
  | .subC => []
  | .subD => []
  | .subE => []
  | .subH => []
  | .subL => []
  | .subM => []
  | .subA => []
  | .sbbB => []
  | .sbbC => []
  | .sbbD => []
  | .sbbE => []
  | .sbbH => []
  | .sbbL => []
  | .sbbM => []
  | .sbbA => []
  | .anaB => []
  | .anaC => []
  | .anaD => []
  | .anaE => []
  | .anaH => []
  | .anaL => []
  | .anaM => []
  | .anaA => []
  | .xraB => []
  | .xraC => []
  | .xraD => []
  | .xraE => []
  | .xraH => []
  | .xraL => []
  | .xraM => []
  | .xraA => []
  | .oraB => []
  | .oraC => []
  | .oraD => []
  | .oraE => []
  | .oraH => []
  | .oraL => []
  | .oraM => []
  | .oraA => []
  | .cmpB => []
  | .cmpC => []
  | .cmpD => []
  | .cmpE => []
  | .cmpH => []
  | .cmpL => []
  | .cmpM => []
  | .cmpA => []
  | .undefC0 => []
  | .undefC1 => []
  | .undefC2 => []
  | .jmp a16 => [lowByte a16, highByte a16]
  | .undefC4 => []
  | .undefC5 => []
  | .adi d8 => [d8]
  | .undefC7 => []
  | .undefC8 => []
  | .undefC9 => []
  | .undefCA => []
  | .undefCB => []
  | .undefCC => []
  | .undefCD => []
  | .aci d8 => [d8]
  | .undefCF => []
  | .undefD0 => []
  | .undefD1 => []
  | .undefD2 => []
  | .undefD3 => []
  | .undefD4 => []
  | .undefD5 => []
  | .sui d8 => [d8]
  | .undefD7 => []
  | .undefD8 => []
  | .undefD9 => []
  | .undefDA => []
  | .undefDB => []
  | .undefDC => []
  | .undefDD => []
  | .sbi d8 => [d8]
  | .undefDF => []
  | .undefE0 => []
  | .undefE1 => []
  | .undefE2 => []
  | .undefE3 => []
  | .undefE4 => []
  | .undefE5 => []
  | .ani d8 => [d8]
  | .undefE7 => []
  | .undefE8 => []
  | .undefE9 => []
  | .undefEA => []
  | .xchg => []
  | .undefEC => []
  | .undefED => []
  | .xri d8 => [d8]
  | .undefEF => []
  | .undefF0 => []
  | .undefF1 => []
  | .undefF2 => []
  | .undefF3 => []
  | .undefF4 => []
  | .undefF5 => []
  | .ori d8 => [d8]
  | .undefF7 => []
  | .undefF8 => []
  | .undefF9 => []
  | .undefFA => []
  | .undefFB => []
  | .undefFC => []
  | .undefFD => []
  | .cpi d8 => [d8]
  | .undefFF => []

/-- The bytes of an instruction, the opcode at the lowest address (20_memory.md R32, 30_encoding.md R45). -/
def encode (i : Instr) : List Byte := i.opcode :: i.operandBytes

/-- Operand code `sss` of a register operand (R48). -/
def Reg.code : Reg → Byte
  | .b => 0
  | .c => 1
  | .d => 2
  | .e => 3
  | .h => 4
  | .l => 5
  | .a => 7

/-- Whether an instruction is of the catalog slice (00_scope.md R3). -/
def Instr.catalogued (i : Instr) : Bool := hasHandler i.opcode

/-- The bytes of an instruction whose bits are `w`: bits 7 to 0 the first byte, 15 to 8 the second, 23 to 16 the third; bits
above `nbits` are 0. -/
def tableBytes (nbits w : Nat) : Byte × Byte × Byte :=
  let v := w % 2 ^ nbits
  (BitVec.ofNat 8 v, BitVec.ofNat 8 (v / 2 ^ 8), BitVec.ofNat 8 (v / 2 ^ 16))

/-- The instruction the decoder reads from a word numbered as spec/opcode_table.json numbers its bits. -/
def decodeTableWord (nbits w : Nat) : Option Instr :=
  match decode [(tableBytes nbits w).1, (tableBytes nbits w).2.1, (tableBytes nbits w).2.2] with
  | .ok (i, _) => some i
  | .error _ => none

end Sys2Proof
end

