-- ==== Sys2Proof/Machine/Fetch.lean ====
section
/-! DEFINITION. Fetching an instruction (49_step_scheduler.md R143 step 3) and placing one where the next fetch finds it. -/

namespace Sys2Proof.Machine

/-- The instruction at PC: its bytes at PC, PC + 1 and PC + 2, each address mod 65536 (20_memory.md R31, R32). Reading all three
bytes whatever LEN[op] is cannot be told from reading LEN[op] of them, since a read has no side effect (R34, R35). -/
def fetch (s : State) : Instr := decodeBytes (s.read1 s.pc) (s.read1 (s.pc + 1)) (s.read1 (s.pc + 2))

/-- The state with three bytes stored from an address on, wrapping (R31). -/
def placeBytes (s : State) (a : Word) (b1 b2 b3 : Byte) : State :=
  ((s.write1 a b1).write1 (a + 1) b2).write1 (a + 2) b3

/-- The counter at which the very next tick fetches: unchanged when it already does (R144: cnt <= 1), else 0. -/
def readyCount (cnt : Int) : Int := if cnt ≤ 1 then cnt else 0

end Sys2Proof.Machine
end

