-- ==== Sys2Proof/Machine/Step.lean ====
section
/-! DEFINITION. The step: one tick of the scheduler (49_step_scheduler.md R143). -/

namespace Sys2Proof.Machine

/-- `Tick` (R143): decrement cnt; while it is above 0 the tick is busy and does nothing more; otherwise fetch, decode and
execute one whole instruction. -/
def step (s : State) : Host.Outcome State Fault Refusal :=
  if (countDown s).cnt > 0 then .next (countDown s)
  else exec (fetch s) (beginFetch (countDown s))

/-- The state with the instruction whose bits are `w` stored at PC, and the counter such that the next tick fetches it
(log entry 7). -/
def State.withFetchWord (s : State) (nbits w : Nat) : State :=
  let b := tableBytes nbits w
  let t := placeBytes s s.pc b.1 b.2.1 b.2.2
  { t with cnt := readyCount s.cnt }

end Sys2Proof.Machine
end

