-- ==== Sys2Proof/Machine/HostPort.lean ====
section
/-! DEFINITION. What the host can do to the block between ticks (70_reset_and_hazards.md R181): populate memory (20_memory.md
R43), apply reset (R170), tick (49_step_scheduler.md R143), inspect (10_state.md R25); and the launch record (R26). There is
no other move: nothing overlaps a tick (49_step_scheduler.md R152, U1) and there is no write port to registers, F, PC or SP. -/

namespace Sys2Proof.Machine

/-- RESET_REG and RESET_SP (00_scope.md R4): what a reset leaves in the registers and SP, any values (R24). -/
structure ResetParams where
  regs : Regs
  sp : Word
deriving DecidableEq, Repr

/-- `Reset()` (70_reset_and_hazards.md R170): PC, F, cnt and UD take their reset values, the registers and SP any values, and
Mem is not touched. It is not a tick; the outputs read 0 until the next one (log entry 4). -/
def hostReset (p : ResetParams) (s : State) : State where
  regs := p.regs
  f := 0x02
  pc := 0x0000
  sp := p.sp
  mem := s.mem
  cnt := 0
  ud := false
  out := { fetched := false, undef := false }

/-- The host writes a byte of memory between ticks (20_memory.md R43). The core does not notice. -/
def hostWrite (a : Word) (v : Byte) (s : State) : State := s.write1 a v

/-- A prepared start (10_state.md R26): any registers, SP, F, PC and memory image. -/
structure Launch where
  regs : Regs
  f : Byte
  pc : Word
  sp : Word
  mem : Memory
deriving DecidableEq, Repr

/-- The state a launch record starts from: cnt = 0 and UD = 0 (R26). -/
def launch (r : Launch) : State where
  regs := r.regs
  f := r.f
  pc := r.pc
  sp := r.sp
  mem := r.mem
  cnt := 0
  ud := false
  out := { fetched := false, undef := false }

/-- What an inspection names (R25): a register cell, a pair, F, PC, SP, a byte of memory, cnt or UD. -/
inductive Probe where
  | cell (index : BitVec 3)
  | pair (p : Pair)
  | flags
  | pc
  | sp
  | mem (a : Word)
  | cnt
  | ud
deriving DecidableEq, Repr

/-- The read-only accessors of R25, as integers: each shows the state and changes nothing. -/
def inspect (p : Probe) (s : State) : Int :=
  match p with
  | .cell i => (s.regs.cell i).toNat
  | .pair q => (s.regs.pair q).toNat
  | .flags => s.f.toNat
  | .pc => s.pc.toNat
  | .sp => s.sp.toNat
  | .mem a => (s.read1 a).toNat
  | .cnt => s.cnt
  | .ud => s.ud.toNat

/-- The host's moves (R181). -/
inductive HostAction where
  | populate (a : Word) (v : Byte)
  | reset (p : ResetParams)
  | tick
  | inspect (p : Probe)
deriving DecidableEq, Repr

/-- One move of the host. -/
def hostStep (act : HostAction) (s : State) : Result :=
  match act with
  | .populate a v => .next (hostWrite a v s)
  | .reset p => .next (hostReset p s)
  | .tick => step s
  | .inspect _ => .next s

/-- A sequence of moves, in order. -/
def hostRun (acts : List HostAction) (s : State) : Result :=
  match acts with
  | [] => .next s
  | act :: rest =>
    match hostStep act s with
    | .next t => hostRun rest t
    | .fault r => .fault r
    | .refused r => .refused r

end Sys2Proof.Machine
end

