-- ==== Sys2Proof/Safety.lean ====
section
/-! DEFINITION. What counts as a safe run and as the end of one, and the predicates the statements are written in. -/

namespace Sys2Proof.Safety

open Sys2Proof.Machine

/-! ## The fault reading of UndefinedOpcode (48_undefined_opcode.md R140) -/

/-- A state is faulted once UD is set: no tick clears UD, so it is never cleared in a run (R140). -/
def faulted (s : State) : Bool := s.ud

/-- One tick under the fault reading of R140: a tick that leaves UD set is a fault. `step` itself gives R138's exact
behaviour. -/
def checkedStep (s : State) : Result :=
  match step s with
  | .next t => if faulted t then .fault .undefinedOpcode else .next t
  | .fault r => .fault r
  | .refused r => .refused r

/-! ## The scheduler between ticks -/

/-- `ready_next` of 49_step_scheduler.md R144: the next tick is a fetch tick. -/
def readyNext (s : State) : Bool := decide (s.cnt ≤ 1)

/-- `k` ticks (70_reset_and_hazards.md R180 a). -/
def ticks (k : Nat) (s : State) : Result := core.run k s

/-- The end of a run by stop address (70_reset_and_hazards.md R180 b): the next tick fetches at `stop`. -/
def atStop (stop : Word) (s : State) : Bool := readyNext s && s.pc == stop

/-! ## Invariants (10_state.md R27) -/

/-- Memory is in canonical form; flag bits 1, 3 and 5 are as reset left them (R16); the counter is in 0..16 (R21); the output
`undef` shows only on a fetch tick and with UD set (48_undefined_opcode.md R139). -/
abbrev Inv (s : State) : Prop :=
  s.mem.wf = true ∧ s.f &&& 0x2A = 0x02 ∧ 0 ≤ s.cnt ∧ s.cnt ≤ 16 ∧
    (s.out.undef = true → s.out.fetched = true ∧ s.ud = true)

/-! ## What statements say of a state after an instruction -/

/-- Even parity of 40_alu_flags.md R63 in its exclusive-or form. -/
def evenParity (v : Byte) : Bool :=
  !(v.getLsbD 7 ^^ v.getLsbD 6 ^^ v.getLsbD 5 ^^ v.getLsbD 4 ^^ v.getLsbD 3 ^^ v.getLsbD 2 ^^ v.getLsbD 1 ^^ v.getLsbD 0)

/-- Carry of a sum of three terms (40_alu_flags.md R64, R68). -/
def carryOut (a b : Byte) (cin : Bool) : Bool := decide (255 < a.toNat + b.toNat + cin.toNat)

/-- Auxiliary Carry of a sum of three terms (R66, R68). -/
def halfCarry (a b : Byte) (cin : Bool) : Bool := decide (15 < a.toNat % 16 + b.toNat % 16 + cin.toNat)

/-- Carry of a difference: a borrow (R65, R69). -/
def borrowOut (a b : Byte) (bin : Bool) : Bool := decide (a.toNat < b.toNat + bin.toNat)

/-- Auxiliary Carry of a difference: a half-borrow (R67, R69). -/
def halfBorrow (a b : Byte) (bin : Bool) : Bool := decide (a.toNat % 16 < b.toNat % 16 + bin.toNat)

/-- A carry or borrow as a byte, 0 or 1. -/
def bitByte (c : Bool) : Byte := if c then 1 else 0

/-- The memory operand: the byte at {H, L} (30_encoding.md R48). -/
def byteAtHL (s : State) : Byte := s.read1 (joinBytes s.regs.h s.regs.l)

/-- The Carry flag, bit 0 of F. -/
def carryFlag (s : State) : Bool := s.f.getLsbD 0

/-- The five condition bits of a flag byte by their bit numbers (10_state.md R15). -/
def ConditionBits (f : Byte) (sign zero aux parity carry : Bool) : Prop :=
  f.getLsbD 7 = sign ∧ f.getLsbD 6 = zero ∧ f.getLsbD 4 = aux ∧ f.getLsbD 2 = parity ∧ f.getLsbD 0 = carry

/-- Bits 1, 3 and 5 of the flag byte are kept (10_state.md R16). -/
def UnusedBitsKept (f g : Byte) : Prop :=
  g.getLsbD 1 = f.getLsbD 1 ∧ g.getLsbD 3 = f.getLsbD 3 ∧ g.getLsbD 5 = f.getLsbD 5

/-- Every byte of memory reads as before. -/
def NoByteStored (s t : State) : Prop := ∀ a : Word, t.read1 a = s.read1 a

/-- Every byte of memory outside the listed addresses reads as before. -/
def OnlyStored (addresses : List Word) (s t : State) : Prop := ∀ a : Word, a ∉ addresses → t.read1 a = s.read1 a

/-- SP, UD and the outputs are as before: no exception, no stack. -/
def NoEvent (s t : State) : Prop := t.sp = s.sp ∧ t.ud = s.ud ∧ t.out = s.out

/-- The scheduler's part of a fetch tick: PC past `len` bytes, wrapping, and the cost in cnt. -/
def Scheduled (len cost : Nat) (s t : State) : Prop :=
  t.pc.toNat = (s.pc.toNat + len) % 65536 ∧ t.cnt = cost

/-- `exec i` completes at `s` with the accumulator `res`, the five flags of `res` with the given AC and CY, and everything else
as before, in `len` bytes and `cost` ticks. -/
def CompletesAlu (i : Instr) (len cost : Nat) (s : State) (res : Byte) (aux carry : Bool) : Prop :=
  ∃ t, exec i s = .next t ∧ t.regs = { s.regs with a := res } ∧
    ConditionBits t.f (decide (128 ≤ res.toNat)) (decide (res.toNat = 0)) aux (evenParity res) carry ∧
    UnusedBitsKept s.f t.f ∧ NoByteStored s t ∧ NoEvent s t ∧ Scheduled len cost s t

/-- `exec i` completes at `s` with the flags of the discarded result `res` and every register as before. -/
def CompletesCompare (i : Instr) (len cost : Nat) (s : State) (res : Byte) (aux carry : Bool) : Prop :=
  ∃ t, exec i s = .next t ∧ t.regs = s.regs ∧
    ConditionBits t.f (decide (128 ≤ res.toNat)) (decide (res.toNat = 0)) aux (evenParity res) carry ∧
    UnusedBitsKept s.f t.f ∧ NoByteStored s t ∧ NoEvent s t ∧ Scheduled len cost s t

/-- `exec i` completes at `s` with the accumulator `a`, the carry `carry`, the other seven bits of F kept, and everything else
as before, in one byte and four ticks. -/
def CompletesCarry (i : Instr) (s : State) (a : Byte) (carry : Bool) : Prop :=
  ∃ t, exec i s = .next t ∧ t.regs = { s.regs with a := a } ∧ t.f.getLsbD 0 = carry ∧ t.f &&& 0xFE = s.f &&& 0xFE ∧
    NoByteStored s t ∧ NoEvent s t ∧ Scheduled 1 4 s t

/-- Whether an instruction writes the accumulator (10_state.md R14, the table), by opcode byte: the ALU groups but CMP and CPI,
the rotates, DAA, CMA and LDA. -/
def writesA (op : Byte) : Bool :=
  decide (0x80 ≤ op.toNat ∧ op.toNat ≤ 0xB7 ∨
    op.toNat ∈ [0xC6, 0xCE, 0xD6, 0xDE, 0xE6, 0xEE, 0xF6, 0x07, 0x0F, 0x17, 0x1F, 0x27, 0x2F, 0x3A])

/-- Whether a flag is in an instruction's flags-to-update mask: the table of 40_alu_flags.md R71 by opcode byte. -/
def flagMask (op : Byte) : Byte :=
  if 0x80 ≤ op.toNat ∧ op.toNat ≤ 0xBF ∨ op.toNat ∈ [0xC6, 0xCE, 0xD6, 0xDE, 0xE6, 0xEE, 0xF6, 0xFE] ∨ op.toNat = 0x27
  then 0xD5
  else if op.toNat ∈ [0x07, 0x0F, 0x17, 0x1F, 0x37, 0x3F] then 0x01
  else 0x00

/-- The addresses an instruction stores to (20_memory.md R34), computed as its meaning computes them. -/
def storedAddresses (i : Instr) (s : State) : List Word :=
  match i with
  | .mviM _ => [addressM s]
  | .sta a16 => [a16]
  | .shld a16 => [a16, a16 + 1]
  | _ => []

/-- The state with other values in what no instruction reads: SP (10_state.md R19), cell 6 (R12), flag bits 1, 3 and 5 (R16)
and UD (R22). -/
def withInert (sp : Word) (cell6 unused : Byte) (ud : Bool) (s : State) : State :=
  { s with sp := sp, regs := { s.regs with cell6 := cell6 }, f := (s.f &&& 0xD5) ||| (unused &&& 0x2A), ud := ud }

/-- One instruction without its timing (70_reset_and_hazards.md R177): the fetch tick at PC, whatever cnt was. -/
def instrStep (s : State) : State :=
  match step { s with cnt := 0 } with
  | .next t => t
  | _ => s

/-- `k` instructions without their timing. -/
def instrRun : Nat → State → State
  | 0, s => s
  | k + 1, s => instrRun k (instrStep s)

/-- The tick, counted from 1, on which the instruction after the first `k` is fetched: `1 + c_1 + ... + c_k`
(49_step_scheduler.md R148). -/
def fetchTickNumber : Nat → State → Nat
  | 0, _ => 1
  | k + 1, s => cyclesOf (s.read1 s.pc) + fetchTickNumber k (instrStep s)

/-- Both required properties of a DAA_FN (42_arithmetic.md R98): the golden vector, and a carry is never cleared. -/
def DaaRequired (fn : Byte → Bool → Bool → DaaOut) : Prop :=
  fn 0x9A false false = { a := 0x00, ac := true, cy := true } ∧ ∀ a ac, (fn a ac true).cy = true

end Sys2Proof.Safety
end

