-- ==== Sys2Proof/Certificates/Slice0/Obligations.lean ====
section
/-! DEFINITION. The statements for the provers. Each docstring names the rule of spec/ it formalises. -/

open Sys2Proof Sys2Proof.Machine Sys2Proof.Safety

/-! ## Reset and the scheduler -/

/-- 70_reset_and_hazards.md R170: after any sequence of host moves, from any state and for any RESET_REG and RESET_SP, reset
sets PC, F, cnt and UD, takes the given registers and SP, and leaves Mem as those moves left it. That UD is among them is the
spec's own choice (its D15), as the rule says. -/
def Obligations.ResetEstablishesInitialState : Prop :=
  ∀ (acts : List HostAction) (p : ResetParams) (s : State), ∃ t u,
    hostRun acts s = .next t ∧ hostRun (acts ++ [.reset p]) s = .next u ∧
    u.pc = 0x0000 ∧ u.f = 0x02 ∧ u.cnt = 0 ∧ u.ud = false ∧ u.regs = p.regs ∧ u.sp = p.sp ∧ u.mem = t.mem

/-- 10_state.md R27 at the start: the model's reset state, and the state after any reset over any canonical memory, meets the
machine invariant. That `State.reset` is one of these (zero registers, nothing listed in memory) is the model's choice, log
entries 1 and 2. -/
def Obligations.ResetMeetsInvariant : Prop :=
  Inv State.reset ∧ ∀ (p : ResetParams) (s : State), s.mem.wf = true → Inv (hostReset p s)

/-- 70_reset_and_hazards.md R172: the first tick after a reset fetches and executes the opcode at Mem[0x0000]. -/
def Obligations.FirstTickAfterResetFetchesAtZero : Prop :=
  ∀ (p : ResetParams) (s : State),
    step (hostReset p s)
      = exec (decodeBytes (s.read1 0x0000) (s.read1 0x0001) (s.read1 0x0002))
          { hostReset p s with cnt := -1, out := { fetched := true, undef := false } }

/-- 49_step_scheduler.md R143, the two branches of Tick. A busy tick only decrements cnt; otherwise, when the bytes at PC decode
to an instruction, the step is that instruction's `exec` after the decrement, with the output `fetched` raised. Every
decoded instruction is well formed. -/
def Obligations.TickRunsTheDecodedInstruction : Prop :=
  ∀ (s : State),
    (0 < s.cnt - 1 → step s = .next { s with cnt := s.cnt - 1, out := { fetched := false, undef := false } }) ∧
    (¬ 0 < s.cnt - 1 → ∀ i, decodeBytes (s.read1 s.pc) (s.read1 (s.pc + 1)) (s.read1 (s.pc + 2)) = i → i.wellFormed = true →
      step s = exec i { s with cnt := s.cnt - 1, out := { fetched := true, undef := false } })

/-- 10_state.md R18 and 49_step_scheduler.md R143, for every instruction: the fetch tick completes, writes PC once (past the
instruction's LEN bytes, wrapping, or the operand for JMP) and loads cnt with CYCLES. -/
def Obligations.FetchTickWritesPcAndCount : Prop :=
  ∀ (i : Instr) (s : State), ∃ t, exec i s = .next t ∧ t.cnt = cyclesOf i.opcode ∧
    match i with
    | .jmp a16 => t.pc = a16
    | _ => t.pc.toNat = (s.pc.toNat + lenOf i.opcode) % 65536

/-- 49_step_scheduler.md R144: a tick is a fetch tick exactly when, before it, cnt <= 1. -/
def Obligations.FetchTickExactlyWhenReady : Prop :=
  ∀ (s t : State), step s = .next t → (t.out.fetched = true ↔ s.cnt ≤ 1)

/-- 48_undefined_opcode.md R141: from every state the tick yields a next state; there is no stuck state and no refusal. -/
def Obligations.TickIsTotal : Prop := ∀ s : State, ∃ t, step s = .next t

/-- 49_step_scheduler.md R148: after a fetch tick of an instruction of cost c, the next c - 1 ticks change only cnt (and clear
the outputs), and tick number c after it is the next fetch tick. -/
def Obligations.PacingLaw : Prop :=
  ∀ (s : State), s.cnt ≤ 1 → ∃ t, step s = .next t ∧ t.out.fetched = true ∧ t.cnt = cyclesOf (s.read1 s.pc) ∧
    (∀ k : Nat, 1 ≤ k → k < cyclesOf (s.read1 s.pc) →
      ticks k t = .next { t with cnt := t.cnt - k, out := { fetched := false, undef := false } }) ∧
    ∃ u, ticks (cyclesOf (s.read1 s.pc)) t = .next u ∧ u.out.fetched = true

/-- 49_step_scheduler.md R149: after the fetch tick of a 10-cycle instruction, 9 ticks leave PC at the value that tick gave it
with `fetched` 0; the 10th fetches the next instruction, and PC advances by that instruction's length unless it is a jump.
This is the spec's own reading of the document's property (its C2). -/
def Obligations.TenCycleInstructionTiming : Prop :=
  ∀ (s : State), s.cnt ≤ 1 → cyclesOf (s.read1 s.pc) = 10 → ∃ t, step s = .next t ∧
    (∀ k : Nat, 1 ≤ k → k ≤ 9 → ∃ u, ticks k t = .next u ∧ u.pc = t.pc ∧ u.out.fetched = false) ∧
    ∃ v, ticks 10 t = .next v ∧ v.out.fetched = true ∧
      ((∀ a16, fetch t ≠ .jmp a16) → v.pc.toNat = (t.pc.toNat + lenOf (t.read1 t.pc)) % 65536)

/-- 49_step_scheduler.md R148 with 70_reset_and_hazards.md R177: ticking refines the instruction-level machine. From a ready
state, the tick `1 + c_1 + ... + c_k` leaves exactly what k + 1 instructions without timing leave. -/
def Obligations.TicksRefineInstructionRun : Prop :=
  ∀ (k : Nat) (s : State), s.cnt ≤ 1 → ticks (fetchTickNumber k s) s = .next (instrRun (k + 1) s)

/-- 70_reset_and_hazards.md R177: no instruction's effect depends on the busy-cycle counter. -/
def Obligations.NoEffectDependsOnCounter : Prop :=
  ∀ (i : Instr) (s : State) (n : Int), exec i { s with cnt := n } = exec i s

/-! ## Invariants and whole-machine rules -/

/-- Every tick keeps the machine invariant (10_state.md R16, R21, R27), from every state that meets it: memory canonical, flag
bits 1, 3 and 5 as reset left them, cnt in 0..16, `undef` only with `fetched` and UD. -/
def Obligations.TickKeepsInvariant : Prop :=
  ∀ (s t : State), Inv s → step s = .next t → Inv t

/-- 10_state.md R27, over every image and every RESET_REG and RESET_SP: after any number k of ticks from reset, SP, r[6], B and C
hold their reset values, F & 0x2A = 0x02, cnt is 0 exactly when k is 0 and otherwise in 1..16, PC and SP are in range, and
the next tick never takes UD from 1 to 0. The spec marks the list as derived from its rules R143, R24 and R16. -/
def Obligations.InvariantsAfterEveryTick : Prop :=
  ∀ (p : ResetParams) (s : State) (k : Nat), ∃ t, ticks k (hostReset p s) = .next t ∧
    t.pc.toNat ≤ 0xFFFF ∧ t.sp.toNat ≤ 0xFFFF ∧ t.sp = p.sp ∧ t.regs.cell6 = p.regs.cell6 ∧ t.regs.b = p.regs.b ∧
    t.regs.c = p.regs.c ∧ t.f &&& 0x2A = 0x02 ∧ (t.cnt = 0 ↔ k = 0) ∧ (k ≠ 0 → 1 ≤ t.cnt ∧ t.cnt ≤ 16) ∧
    ∀ u, step t = .next u → t.ud = true → u.ud = true

/-- SP, r[6], B, C and flag bits 1, 3 and 5 are written by no tick, and UD is never cleared by one (10_state.md R12, R14, R16,
R19, R22), from every state. -/
def Obligations.TickNeverWritesInertState : Prop :=
  ∀ (s t : State), step s = .next t →
    t.sp = s.sp ∧ t.regs.cell6 = s.regs.cell6 ∧ t.regs.b = s.regs.b ∧ t.regs.c = s.regs.c ∧ UnusedBitsKept s.f t.f ∧
      (s.ud = true → t.ud = true)

/-- SP, r[6], flag bits 1, 3 and 5 and UD are read by no tick (10_state.md R12, R16, R19, R22): changing them before a tick changes
nothing else after it. -/
def Obligations.InertStateIsNeverRead : Prop :=
  ∀ (s t : State) (sp : Word) (cell6 unused : Byte) (ud : Bool), step s = .next t →
    step (withInert sp cell6 unused ud s) = .next (withInert sp cell6 unused (ud || t.out.undef) t)

/-- 10_state.md R14, the table of who writes which cell: B, C and r[6] never; D and E only by XCHG; H and L only by XCHG and
LHLD; A only by the instructions of the table. -/
def Obligations.RegistersWrittenOnlyByTheirInstructions : Prop :=
  ∀ (i : Instr) (s t : State), exec i s = .next t →
    t.regs.b = s.regs.b ∧ t.regs.c = s.regs.c ∧ t.regs.cell6 = s.regs.cell6 ∧
    (i ≠ .xchg → t.regs.d = s.regs.d ∧ t.regs.e = s.regs.e) ∧
    (i ≠ .xchg → (∀ a16, i ≠ .lhld a16) → t.regs.h = s.regs.h ∧ t.regs.l = s.regs.l) ∧
    (writesA i.opcode = false → t.regs.a = s.regs.a)

/-- 40_alu_flags.md R71: a flag outside an instruction's flags-to-update mask keeps its value, for every instruction. -/
def Obligations.FlagsOutsideTheMaskAreKept : Prop :=
  ∀ (i : Instr) (s t : State), exec i s = .next t →
    t.f &&& ~~~(flagMask i.opcode) = s.f &&& ~~~(flagMask i.opcode)

/-- 20_memory.md R34 and R35: an instruction changes no byte of memory outside the addresses it stores to; only MVI M, STA and
SHLD store. -/
def Obligations.OnlyStoresChangeMemory : Prop :=
  ∀ (i : Instr) (s t : State), s.mem.wf = true → exec i s = .next t → OnlyStored (storedAddresses i s) s t

/-- 60_exceptions.md R156 and 48_undefined_opcode.md R139: the output `undef` is 1 exactly on a fetch tick whose opcode byte has
no handler; UD is set on the same tick and kept; and on that tick the opcode is the byte at PC - 1. -/
def Obligations.UndefinedOpcodeEventExactly : Prop :=
  ∀ (s t : State), step s = .next t →
    (t.out.undef = true ↔ s.cnt ≤ 1 ∧ isFallback (s.read1 s.pc) = true) ∧
    (t.ud = true ↔ s.ud = true ∨ t.out.undef = true) ∧
    (t.out.undef = true → t.read1 (t.pc - 1) = s.read1 s.pc ∧ t.pc - 1 = s.pc)

/-- 48_undefined_opcode.md R140, the fault reading: a checked tick faults exactly when the tick leaves UD set, otherwise it is
the tick; and once a state is faulted every later checked tick faults. -/
def Obligations.CheckedStepFaultsOnceLatched : Prop :=
  ∀ (s : State), (∃ t, step s = .next t ∧ checkedStep s = if t.ud then .fault .undefinedOpcode else .next t) ∧
    (faulted s = true → checkedStep s = .fault .undefinedOpcode)

/-! ## Memory and the host port -/

/-- 20_memory.md R31: MemRead and MemWrite of one and two bytes, little-endian, wrapping from 0xFFFF to 0x0000. -/
def Obligations.MemoryAccessPrimitives : Prop :=
  ∀ (s : State) (a b : Word) (v : Byte) (w : Word), s.mem.wf = true →
    (s.write1 a v).read1 b = (if b = a then v else s.read1 b) ∧
    (s.write2 a w).read1 b = (if b = a then w.extractLsb' 0 8 else if b = a + 1 then w.extractLsb' 8 8 else s.read1 b) ∧
    (s.read2 a).toNat = (s.read1 (a + 1)).toNat * 256 + (s.read1 a).toNat ∧
    (s.write2 a w).read2 a = w ∧
    s.read2 0xFFFF = joinBytes (s.read1 0x0000) (s.read1 0xFFFF)

/-- Every write keeps memory in canonical form (the model's representation, log entry 2), so that equal memories are equal
data. -/
def Obligations.WritesKeepMemoryCanonical : Prop :=
  ∀ (s : State) (a : Word) (v : Byte) (w : Word), s.mem.wf = true →
    (s.write1 a v).mem.wf = true ∧ (s.write2 a w).mem.wf = true ∧ (hostWrite a v s).mem.wf = true

/-- Two canonical memories that read alike at every address are the same list (the model's representation, log entry 2). -/
def Obligations.CanonicalMemoriesAreExtensional : Prop :=
  ∀ (s t : State), s.mem.wf = true → t.mem.wf = true → (∀ a : Word, t.read1 a = s.read1 a) → t.mem = s.mem

/-- 20_memory.md R43 and 10_state.md R25: populating a byte changes that byte alone and nothing else of the state; inspecting
changes nothing. -/
def Obligations.HostPopulatesAndInspects : Prop :=
  ∀ (s : State) (a : Word) (v : Byte) (q : Probe), s.mem.wf = true →
    (∃ t, hostStep (.populate a v) s = .next t ∧ t.read1 a = v ∧ OnlyStored [a] s t ∧ t = { s with mem := t.mem }) ∧
    hostStep (.inspect q) s = .next s

/-- 20_memory.md R41: a store into the bytes that follow is seen by the very next fetch. STA of the address just past itself
makes A the next opcode byte. -/
def Obligations.StoreIntoNextOpcodeIsFetched : Prop :=
  ∀ (s t : State), s.mem.wf = true → s.cnt ≤ 1 → fetch s = .sta (s.pc + 3) → step s = .next t →
    (fetch t).opcode = s.regs.a

/-- 95_test_vectors.md S4, by 41_data_transfer.md R76, R77, R81: storing the accumulator to an address and loading it back
yields the original value and leaves the flags untouched. -/
def Obligations.StoreThenLoadRoundTrip : Prop :=
  ∀ (s t u : State) (a16 : Word) (v : Byte), s.mem.wf = true → exec (.sta a16) s = .next t →
    exec (.lda a16) (t.setReg .a v) = .next u → u.regs = s.regs ∧ u.f = s.f

/-! ## Encoding -/

/-- Decoding the encoding of any instruction gives it back, with the bytes after it, at every operand value
(30_encoding.md R45, R47, R50). -/
def Obligations.DecodeInvertsEncode : Prop :=
  ∀ (i : Instr) (rest : List Byte), decode (encode i ++ rest) = .ok (i, rest)

/-- Encoding what any three bytes decode to gives back exactly the LEN[op] bytes read (30_encoding.md R45, R51, R52): no byte of
an instruction is dropped and the 256 opcodes are all used. -/
def Obligations.EncodeInvertsDecode : Prop :=
  ∀ (op b2 b3 : Byte), encode (decodeBytes op b2 b3) = [op, b2, b3].take (lenOf op)

/-- 30_encoding.md R46 and R48: the fields of the opcode byte. Group ALU-R is 10_ooo_sss and group ALU-I is 11_ooo_110, with
ooo 0 to 7 for ADD, ADC, SUB, SBB, ANA, XRA, ORA, CMP, and sss the operand code, 6 for M. -/
def Obligations.AluOpcodeFields : Prop :=
  ∀ (b2 b3 : Byte),
    (∀ r : Reg,
      decodeBytes (0b10_000_000 + r.code) b2 b3 = Instr.addR r ∧ decodeBytes (0b10_001_000 + r.code) b2 b3 = Instr.adcR r ∧
      decodeBytes (0b10_010_000 + r.code) b2 b3 = Instr.subR r ∧ decodeBytes (0b10_011_000 + r.code) b2 b3 = Instr.sbbR r ∧
      decodeBytes (0b10_100_000 + r.code) b2 b3 = Instr.anaR r ∧ decodeBytes (0b10_101_000 + r.code) b2 b3 = Instr.xraR r ∧
      decodeBytes (0b10_110_000 + r.code) b2 b3 = Instr.oraR r ∧ decodeBytes (0b10_111_000 + r.code) b2 b3 = Instr.cmpR r) ∧
    decodeBytes 0b10_000_110 b2 b3 = .addM ∧ decodeBytes 0b10_001_110 b2 b3 = .adcM ∧
    decodeBytes 0b10_010_110 b2 b3 = .subM ∧ decodeBytes 0b10_011_110 b2 b3 = .sbbM ∧
    decodeBytes 0b10_100_110 b2 b3 = .anaM ∧ decodeBytes 0b10_101_110 b2 b3 = .xraM ∧
    decodeBytes 0b10_110_110 b2 b3 = .oraM ∧ decodeBytes 0b10_111_110 b2 b3 = .cmpM ∧
    decodeBytes 0b11_000_110 b2 b3 = .adi b2 ∧ decodeBytes 0b11_001_110 b2 b3 = .aci b2 ∧
    decodeBytes 0b11_010_110 b2 b3 = .sui b2 ∧ decodeBytes 0b11_011_110 b2 b3 = .sbi b2 ∧
    decodeBytes 0b11_100_110 b2 b3 = .ani b2 ∧ decodeBytes 0b11_101_110 b2 b3 = .xri b2 ∧
    decodeBytes 0b11_110_110 b2 b3 = .ori b2 ∧ decodeBytes 0b11_111_110 b2 b3 = .cpi b2

/-- 30_encoding.md R52: the closed form of LEN, as the number of bytes every instruction is encoded in and as the table the
scheduler advances PC by. -/
def Obligations.LengthClosedForm : Prop :=
  ∀ i : Instr, (encode i).length = lenOf i.opcode ∧ (encode i).length =
    if i.opcode.toNat ∈ [0x22, 0x2A, 0x32, 0x3A, 0xC3] then 3
    else if i.opcode.toNat = 0x36 ∨ (i.opcode.extractLsb' 6 2 = 0b11 ∧ i.opcode.extractLsb' 0 3 = 0b110) then 2
    else 1

/-- 49_step_scheduler.md R147: the cost every instruction loads into cnt, by the rule's own groups of opcode bytes, whatever the
state. The figures for DAA and the fallback are the spec's own choice (its D9 and D5, log entry 6). -/
def Obligations.CycleTable : Prop :=
  ∀ (i : Instr) (s : State), ∃ t, exec i s = .next t ∧ 4 ≤ t.cnt ∧ t.cnt ≤ 16 ∧ t.cnt =
    if i.opcode.toNat ∈ [0x36, 0xC3] then 10
    else if i.opcode.toNat ∈ [0x3A, 0x32] then 13
    else if i.opcode.toNat ∈ [0x2A, 0x22] then 16
    else if (0x80 ≤ i.opcode.toNat ∧ i.opcode.toNat ≤ 0xBF) ∨
        i.opcode.toNat ∈ [0xC6, 0xCE, 0xD6, 0xDE, 0xE6, 0xEE, 0xF6, 0xFE] then 7
    else 4

/-- 30_encoding.md R51: dispatch is total, and an opcode byte raises the diagnostic exactly when it is in the rule's own list of
the bytes with no handler. -/
def Obligations.FallbackBytes : Prop :=
  ∀ (op b2 b3 : Byte) (s : State), s.out.undef = false → ∃ t, exec (decodeBytes op b2 b3) s = .next t ∧
    (t.out.undef = true ↔
      (op.toNat ≤ 0x3F ∧ op.toNat ∉ [0x07, 0x0F, 0x17, 0x1F, 0x22, 0x27, 0x2A, 0x2F, 0x32, 0x36, 0x37, 0x3A, 0x3F]) ∨
      (0x40 ≤ op.toNat ∧ op.toNat ≤ 0x7F) ∨
      (0xC0 ≤ op.toNat ∧ op.toNat ∉ [0xC3, 0xC6, 0xCE, 0xD6, 0xDE, 0xE6, 0xEB, 0xEE, 0xF6, 0xFE]))

/-- Words written out from the encodings of the rules, one or more of each family, decode to what they stand for. -/
def Obligations.SampleWordsDecode : Prop :=
  decode [0x36, 0x5A] = .ok (.mviM 0x5A, []) ∧ decode [0x3A, 0x00, 0x20] = .ok (.lda 0x2000, []) ∧
  decode [0x22, 0x0A, 0x01] = .ok (.shld 0x010A, []) ∧ decode [0xEB, 0x00] = .ok (.xchg, [0x00]) ∧
  decode [0x82] = .ok (.addD, []) ∧ decode [0xCE, 0xBE] = .ok (.aci 0xBE, []) ∧ decode [0x27] = .ok (.daa, []) ∧
  decode [0xA1] = .ok (.anaC, []) ∧ decode [0xBB] = .ok (.cmpE, []) ∧ decode [0x1F] = .ok (.rar, []) ∧
  decode [0x3F] = .ok (.cmc, []) ∧ decode [0xC3, 0x34, 0x12] = .ok (.jmp 0x1234, []) ∧
  decode [0x3E, 0x05] = .ok (.undef3E, [0x05]) ∧ decode [] = .error .noBytes ∧
  decode [0xC3, 0x34] = .error (.missingOperand 0xC3 2 3)

/-! ## Data transfer

In this and the next sections the opcode bytes and, for the rotates, CMA, CMC and STC, the flags are as the numbered rules give
them; most of these figures the spec takes from general knowledge and not from its source (log entry 8). -/

/-- 41_data_transfer.md R75: MVI M completes, stores d8 at {H, L} and nowhere else, and leaves registers and flags. -/
def Obligations.MviMStoresImmediate : Prop :=
  ∀ (d8 : Byte) (s : State), s.mem.wf = true → encode (.mviM d8) = [0x36, d8] ∧
    ∃ t, exec (.mviM d8) s = .next t ∧ t.read1 (joinBytes s.regs.h s.regs.l) = d8 ∧
      OnlyStored (storedAddresses (.mviM d8) s) s t ∧ t.regs = s.regs ∧ t.f = s.f ∧ NoEvent s t ∧ Scheduled 2 10 s t

/-- 41_data_transfer.md R76: LDA completes, loads A from a16, and leaves every other register, the flags and memory. -/
def Obligations.LdaLoadsAccumulator : Prop :=
  ∀ (a16 : Word) (s : State), encode (.lda a16) = [0x3A, a16.extractLsb' 0 8, a16.extractLsb' 8 8] ∧
    ∃ t, exec (.lda a16) s = .next t ∧ t.regs = { s.regs with a := s.read1 a16 } ∧ t.f = s.f ∧ NoByteStored s t ∧
      NoEvent s t ∧ Scheduled 3 13 s t

/-- 41_data_transfer.md R77: STA completes, stores A at a16 and nowhere else, and leaves registers and flags. -/
def Obligations.StaStoresAccumulator : Prop :=
  ∀ (a16 : Word) (s : State), s.mem.wf = true →
    encode (.sta a16) = [0x32, a16.extractLsb' 0 8, a16.extractLsb' 8 8] ∧
    ∃ t, exec (.sta a16) s = .next t ∧ t.read1 a16 = s.regs.a ∧ OnlyStored (storedAddresses (.sta a16) s) s t ∧
      t.regs = s.regs ∧ t.f = s.f ∧ NoEvent s t ∧ Scheduled 3 13 s t

/-- 41_data_transfer.md R78: LHLD completes, loads L from a16 and H from the next address, which wraps, and leaves everything
else. -/
def Obligations.LhldLoadsPair : Prop :=
  ∀ (a16 : Word) (s : State), encode (.lhld a16) = [0x2A, a16.extractLsb' 0 8, a16.extractLsb' 8 8] ∧
    ∃ t, exec (.lhld a16) s = .next t ∧ t.regs = { s.regs with l := s.read1 a16, h := s.read1 (a16 + 1) } ∧ t.f = s.f ∧
      NoByteStored s t ∧ NoEvent s t ∧ Scheduled 3 16 s t

/-- 41_data_transfer.md R79: SHLD completes, stores L at a16 and H at the next address, which wraps, and nowhere else, and
leaves registers and flags. -/
def Obligations.ShldStoresPair : Prop :=
  ∀ (a16 : Word) (s : State), s.mem.wf = true →
    encode (.shld a16) = [0x22, a16.extractLsb' 0 8, a16.extractLsb' 8 8] ∧
    ∃ t, exec (.shld a16) s = .next t ∧ t.read1 a16 = s.regs.l ∧ t.read1 (a16 + 1) = s.regs.h ∧
      OnlyStored (storedAddresses (.shld a16) s) s t ∧ t.regs = s.regs ∧ t.f = s.f ∧ NoEvent s t ∧ Scheduled 3 16 s t

/-- 41_data_transfer.md R80: XCHG completes, swaps H with D and L with E, and leaves everything else; applied twice it restores
the registers. -/
def Obligations.XchgSwapsPairs : Prop :=
  ∀ (s : State), encode .xchg = [0xEB] ∧
    ∃ t, exec .xchg s = .next t ∧
      t.regs = { s.regs with d := s.regs.h, e := s.regs.l, h := s.regs.d, l := s.regs.e } ∧ t.f = s.f ∧ NoByteStored s t ∧
      NoEvent s t ∧ Scheduled 1 4 s t ∧ ∃ u, exec .xchg t = .next u ∧ u.regs = s.regs

/-! ## Arithmetic -/

/-- 42_arithmetic.md R85, R86, R93: ADD r for the seven registers (ADD B, C, D, E, H, L, A), ADD M and ADI complete with A the
sum mod 256, the flags of the two-term sum, and nothing else changed. -/
def Obligations.AddInstructions : Prop :=
  ∀ (s : State),
    (∀ r : Reg, encode (Instr.addR r) = [0x80 + r.code] ∧
      CompletesAlu (Instr.addR r) 1 7 s (s.regs.a + s.regs.get r) (halfCarry s.regs.a (s.regs.get r) false)
        (carryOut s.regs.a (s.regs.get r) false)) ∧
    (encode .addM = [0x86] ∧
      CompletesAlu .addM 1 7 s (s.regs.a + byteAtHL s) (halfCarry s.regs.a (byteAtHL s) false)
        (carryOut s.regs.a (byteAtHL s) false)) ∧
    (∀ d8 : Byte, encode (.adi d8) = [0xC6, d8] ∧
      CompletesAlu (.adi d8) 2 7 s (s.regs.a + d8) (halfCarry s.regs.a d8 false) (carryOut s.regs.a d8 false))

/-- 42_arithmetic.md R87, R88, R94 with 40_alu_flags.md R68: ADC r for the seven registers, ADC M and ACI complete with A the
sum of the three terms mod 256, and CY and AC computed against all three. -/
def Obligations.AdcInstructions : Prop :=
  ∀ (s : State),
    (∀ r : Reg, encode (Instr.adcR r) = [0x88 + r.code] ∧
      CompletesAlu (Instr.adcR r) 1 7 s (s.regs.a + s.regs.get r + bitByte (carryFlag s))
        (halfCarry s.regs.a (s.regs.get r) (carryFlag s)) (carryOut s.regs.a (s.regs.get r) (carryFlag s))) ∧
    (encode .adcM = [0x8E] ∧
      CompletesAlu .adcM 1 7 s (s.regs.a + byteAtHL s + bitByte (carryFlag s))
        (halfCarry s.regs.a (byteAtHL s) (carryFlag s)) (carryOut s.regs.a (byteAtHL s) (carryFlag s))) ∧
    (∀ d8 : Byte, encode (.aci d8) = [0xCE, d8] ∧
      CompletesAlu (.aci d8) 2 7 s (s.regs.a + d8 + bitByte (carryFlag s)) (halfCarry s.regs.a d8 (carryFlag s))
        (carryOut s.regs.a d8 (carryFlag s)))

/-- 42_arithmetic.md R89, R90, R95: SUB r for the seven registers, SUB M and SUI complete with A the difference mod 256, CY the
borrow and AC the half-borrow. -/
def Obligations.SubInstructions : Prop :=
  ∀ (s : State),
    (∀ r : Reg, encode (Instr.subR r) = [0x90 + r.code] ∧
      CompletesAlu (Instr.subR r) 1 7 s (s.regs.a - s.regs.get r) (halfBorrow s.regs.a (s.regs.get r) false)
        (borrowOut s.regs.a (s.regs.get r) false)) ∧
    (encode .subM = [0x96] ∧
      CompletesAlu .subM 1 7 s (s.regs.a - byteAtHL s) (halfBorrow s.regs.a (byteAtHL s) false)
        (borrowOut s.regs.a (byteAtHL s) false)) ∧
    (∀ d8 : Byte, encode (.sui d8) = [0xD6, d8] ∧
      CompletesAlu (.sui d8) 2 7 s (s.regs.a - d8) (halfBorrow s.regs.a d8 false) (borrowOut s.regs.a d8 false))

/-- 42_arithmetic.md R91, R92, R96 with 40_alu_flags.md R69: SBB r for the seven registers, SBB M and SBI complete with A the
difference of the three terms mod 256, the borrow compared on integers (b + bin may be 256; R69's formulas are the spec's
decision D7). -/
def Obligations.SbbInstructions : Prop :=
  ∀ (s : State),
    (∀ r : Reg, encode (Instr.sbbR r) = [0x98 + r.code] ∧
      CompletesAlu (Instr.sbbR r) 1 7 s (s.regs.a - s.regs.get r - bitByte (carryFlag s))
        (halfBorrow s.regs.a (s.regs.get r) (carryFlag s)) (borrowOut s.regs.a (s.regs.get r) (carryFlag s))) ∧
    (encode .sbbM = [0x9E] ∧
      CompletesAlu .sbbM 1 7 s (s.regs.a - byteAtHL s - bitByte (carryFlag s))
        (halfBorrow s.regs.a (byteAtHL s) (carryFlag s)) (borrowOut s.regs.a (byteAtHL s) (carryFlag s))) ∧
    (∀ d8 : Byte, encode (.sbi d8) = [0xDE, d8] ∧
      CompletesAlu (.sbi d8) 2 7 s (s.regs.a - d8 - bitByte (carryFlag s)) (halfBorrow s.regs.a d8 (carryFlag s))
        (borrowOut s.regs.a d8 (carryFlag s)))

/-- 42_arithmetic.md R97: DAA completes with the default DAA_FN (log entry 5), written on integers: the low correction, then the
high one on the value it left; AC the nibble carry of the low one, CY raised by an overflow of the high one and never
cleared; Z, S, P of the final accumulator. -/
def Obligations.DaaAdjustsAccumulator : Prop :=
  ∀ (s : State),
    let a := s.regs.a.toNat
    let low := decide (9 < a % 16) || s.f.getLsbD 4
    let a1 := if low then (a + 6) % 256 else a
    let high := decide (9 < a1 / 16) || carryFlag s
    let a2 := if high then (a1 + 0x60) % 256 else a1
    encode .daa = [0x27] ∧
      CompletesAlu .daa 1 4 s (BitVec.ofNat 8 a2) (low && decide (15 < a % 16 + 6))
        (carryFlag s || (high && decide (255 < a1 + 0x60)))

/-- 42_arithmetic.md R98: the model's DAA_FN has the two required properties, DAA meets the golden vector, and no DAA_FN with the
required properties clears a carry that is set. -/
def Obligations.DaaRequiredProperties : Prop :=
  DaaRequired daaFn ∧
  (∀ s t : State, s.regs.a = 0x9A → s.f.getLsbD 4 = false → s.f.getLsbD 0 = false → exec .daa s = .next t →
    t.regs.a = 0x00 ∧ ConditionBits t.f false true true true true) ∧
  ∀ fn, DaaRequired fn → ∀ s : State, s.f.getLsbD 0 = true → (adjustWith fn s).f.getLsbD 0 = true

/-! ## Logical and compare -/

/-- 43_logical.md R105, R106, R111: ANA r for the seven registers, ANA M and ANI complete with A the conjunction, AC the OR of bit 3
of both operands, and CY 0. -/
def Obligations.AnaInstructions : Prop :=
  ∀ (s : State),
    (∀ r : Reg, encode (Instr.anaR r) = [0xA0 + r.code] ∧
      CompletesAlu (Instr.anaR r) 1 7 s (s.regs.a &&& s.regs.get r)
        (s.regs.a.getLsbD 3 || (s.regs.get r).getLsbD 3) false) ∧
    (encode .anaM = [0xA6] ∧
      CompletesAlu .anaM 1 7 s (s.regs.a &&& byteAtHL s) (s.regs.a.getLsbD 3 || (byteAtHL s).getLsbD 3) false) ∧
    (∀ d8 : Byte, encode (.ani d8) = [0xE6, d8] ∧
      CompletesAlu (.ani d8) 2 7 s (s.regs.a &&& d8) (s.regs.a.getLsbD 3 || d8.getLsbD 3) false)

/-- 43_logical.md R107, R108, R112: XRA r for the seven registers, XRA M and XRI complete with A the exclusive or, AC 0 and CY 0. -/
def Obligations.XraInstructions : Prop :=
  ∀ (s : State),
    (∀ r : Reg, encode (Instr.xraR r) = [0xA8 + r.code] ∧
      CompletesAlu (Instr.xraR r) 1 7 s (s.regs.a ^^^ s.regs.get r) false false) ∧
    (encode .xraM = [0xAE] ∧ CompletesAlu .xraM 1 7 s (s.regs.a ^^^ byteAtHL s) false false) ∧
    (∀ d8 : Byte, encode (.xri d8) = [0xEE, d8] ∧ CompletesAlu (.xri d8) 2 7 s (s.regs.a ^^^ d8) false false)

/-- 43_logical.md R109, R110, R113: ORA r for the seven registers, ORA M and ORI complete with A the disjunction, AC 0 and CY 0. -/
def Obligations.OraInstructions : Prop :=
  ∀ (s : State),
    (∀ r : Reg, encode (Instr.oraR r) = [0xB0 + r.code] ∧
      CompletesAlu (Instr.oraR r) 1 7 s (s.regs.a ||| s.regs.get r) false false) ∧
    (encode .oraM = [0xB6] ∧ CompletesAlu .oraM 1 7 s (s.regs.a ||| byteAtHL s) false false) ∧
    (∀ d8 : Byte, encode (.ori d8) = [0xF6, d8] ∧ CompletesAlu (.ori d8) 2 7 s (s.regs.a ||| d8) false false)

/-- 44_compare.md R120 to R123: CMP r for the seven registers, CMP M and CPI complete with the flags of the difference and every
register as before; Z is 1 exactly when A equals the operand. -/
def Obligations.CompareInstructions : Prop :=
  ∀ (s : State),
    (∀ r : Reg, encode (Instr.cmpR r) = [0xB8 + r.code] ∧
      CompletesCompare (Instr.cmpR r) 1 7 s (s.regs.a - s.regs.get r) (halfBorrow s.regs.a (s.regs.get r) false)
        (borrowOut s.regs.a (s.regs.get r) false)) ∧
    (encode .cmpM = [0xBE] ∧
      CompletesCompare .cmpM 1 7 s (s.regs.a - byteAtHL s) (halfBorrow s.regs.a (byteAtHL s) false)
        (borrowOut s.regs.a (byteAtHL s) false)) ∧
    (∀ d8 : Byte, encode (.cpi d8) = [0xFE, d8] ∧
      CompletesCompare (.cpi d8) 2 7 s (s.regs.a - d8) (halfBorrow s.regs.a d8 false) (borrowOut s.regs.a d8 false) ∧
      ∀ t, exec (.cpi d8) s = .next t → (t.f.getLsbD 6 = true ↔ s.regs.a = d8))

/-! ## Rotate, complement and carry -/

/-- 45_rotate.md R125 to R129: RLC and RRC rotate the eight bits of A and copy the bit that moves round into CY; RAL and RAR
rotate the nine bits {CY, A}; each writes A and CY and nothing else. -/
def Obligations.RotateInstructions : Prop :=
  ∀ (s : State),
    (encode .rlc = [0x07] ∧ CompletesCarry .rlc s (s.regs.a.rotateLeft 1) (s.regs.a.getLsbD 7)) ∧
    (encode .rrc = [0x0F] ∧ CompletesCarry .rrc s (s.regs.a.rotateRight 1) (s.regs.a.getLsbD 0)) ∧
    (encode .ral = [0x17] ∧
      CompletesCarry .ral s ((s.regs.a <<< 1) ||| bitByte (carryFlag s)) (s.regs.a.getLsbD 7)) ∧
    (encode .rar = [0x1F] ∧
      CompletesCarry .rar s ((s.regs.a >>> 1) ||| (bitByte (carryFlag s) <<< 7)) (s.regs.a.getLsbD 0))

/-- 95_test_vectors.md 2.5, by 45_rotate.md R125 to R128: RLC then RRC restores A, and RAL then RAR restores A and the whole of F. -/
def Obligations.RotatesUndoEachOther : Prop :=
  ∀ (s : State),
    (∃ t u, exec .rlc s = .next t ∧ exec .rrc t = .next u ∧ u.regs = s.regs) ∧
    (∃ t u, exec .ral s = .next t ∧ exec .rar t = .next u ∧ u.regs = s.regs ∧ u.f = s.f)

/-- 46_complement_carry.md R130 to R133: CMA inverts A and writes no flag; CMC inverts CY and STC sets it, and neither writes
anything else. -/
def Obligations.ComplementAndCarryInstructions : Prop :=
  ∀ (s : State),
    (encode .cma = [0x2F] ∧ CompletesCarry .cma s (~~~s.regs.a) (carryFlag s)) ∧
    (encode .cmc = [0x3F] ∧ CompletesCarry .cmc s s.regs.a (!carryFlag s)) ∧
    (encode .stc = [0x37] ∧ CompletesCarry .stc s s.regs.a true)

/-! ## Jump and the fallback -/

/-- 47_jump.md R135: JMP completes with PC the operand and not advanced again, the low operand byte first, and nothing else
changed but cnt. -/
def Obligations.JmpLoadsPc : Prop :=
  ∀ (a16 : Word) (s : State), encode (.jmp a16) = [0xC3, a16.extractLsb' 0 8, a16.extractLsb' 8 8] ∧
    ∃ t, exec (.jmp a16) s = .next t ∧ t.pc = a16 ∧ t.cnt = 10 ∧ t.regs = s.regs ∧ t.f = s.f ∧ NoByteStored s t ∧
      NoEvent s t

/-- 47_jump.md R135 with 70_reset_and_hazards.md R180 (b): a JMP to its own address loops; after its fetch tick every ten further
ticks bring back exactly the same state. -/
def Obligations.JumpToSelfLoops : Prop :=
  ∀ (s t : State), s.cnt ≤ 1 → fetch s = .jmp s.pc → step s = .next t →
    t.pc = s.pc ∧ t.regs = s.regs ∧ t.f = s.f ∧ t.mem = s.mem ∧ ∀ n : Nat, ticks (10 * n) t = .next t

/-- 48_undefined_opcode.md R138, for all 169 constructors without a handler (undef00 to undefFF): the fallback completes, raises
UD and `undef`, passes over one byte in 4 ticks, and changes no register, flag, SP or byte of memory. -/
def Obligations.UndefinedOpcodeFallback : Prop :=
  ∀ (i : Instr) (s : State), i.catalogued = false → encode i = [i.opcode] ∧
    ∃ t, exec i s = .next t ∧ t.ud = true ∧ t.out = { s.out with undef := true } ∧ t.regs = s.regs ∧ t.f = s.f ∧
      t.sp = s.sp ∧ NoByteStored s t ∧ Scheduled 1 4 s t
end

