-- ==== Sys2Proof/Laws/State.lean ====
section
/-! SUPPORT. One lemma per field per update of the state: the named updates of Machine/Ops.lean, Machine/Flags.lean and
Machine/HostPort.lean, so that no proof unfolds a record update. -/

namespace Sys2Proof.Machine

@[simp] theorem State.setReg_regs (s : State) (x : Reg) (v : Byte) : (s.setReg x v).regs = s.regs.set x v := rfl
@[simp] theorem State.setReg_f (s : State) (x : Reg) (v : Byte) : (s.setReg x v).f = s.f := rfl
@[simp] theorem State.setReg_pc (s : State) (x : Reg) (v : Byte) : (s.setReg x v).pc = s.pc := rfl
@[simp] theorem State.setReg_sp (s : State) (x : Reg) (v : Byte) : (s.setReg x v).sp = s.sp := rfl
@[simp] theorem State.setReg_mem (s : State) (x : Reg) (v : Byte) : (s.setReg x v).mem = s.mem := rfl
@[simp] theorem State.setReg_cnt (s : State) (x : Reg) (v : Byte) : (s.setReg x v).cnt = s.cnt := rfl
@[simp] theorem State.setReg_ud (s : State) (x : Reg) (v : Byte) : (s.setReg x v).ud = s.ud := rfl
@[simp] theorem State.setReg_out (s : State) (x : Reg) (v : Byte) : (s.setReg x v).out = s.out := rfl

@[simp] theorem State.setPair_regs (s : State) (p : Pair) (v : Word) : (s.setPair p v).regs = s.regs.setPair p v := rfl
@[simp] theorem State.setPair_f (s : State) (p : Pair) (v : Word) : (s.setPair p v).f = s.f := rfl
@[simp] theorem State.setPair_pc (s : State) (p : Pair) (v : Word) : (s.setPair p v).pc = s.pc := rfl
@[simp] theorem State.setPair_sp (s : State) (p : Pair) (v : Word) : (s.setPair p v).sp = s.sp := rfl
@[simp] theorem State.setPair_mem (s : State) (p : Pair) (v : Word) : (s.setPair p v).mem = s.mem := rfl
@[simp] theorem State.setPair_cnt (s : State) (p : Pair) (v : Word) : (s.setPair p v).cnt = s.cnt := rfl
@[simp] theorem State.setPair_ud (s : State) (p : Pair) (v : Word) : (s.setPair p v).ud = s.ud := rfl
@[simp] theorem State.setPair_out (s : State) (p : Pair) (v : Word) : (s.setPair p v).out = s.out := rfl

@[simp] theorem State.setF_regs (s : State) (v : Byte) : (s.setF v).regs = s.regs := rfl
@[simp] theorem State.setF_f (s : State) (v : Byte) : (s.setF v).f = v := rfl
@[simp] theorem State.setF_pc (s : State) (v : Byte) : (s.setF v).pc = s.pc := rfl
@[simp] theorem State.setF_sp (s : State) (v : Byte) : (s.setF v).sp = s.sp := rfl
@[simp] theorem State.setF_mem (s : State) (v : Byte) : (s.setF v).mem = s.mem := rfl
@[simp] theorem State.setF_cnt (s : State) (v : Byte) : (s.setF v).cnt = s.cnt := rfl
@[simp] theorem State.setF_ud (s : State) (v : Byte) : (s.setF v).ud = s.ud := rfl
@[simp] theorem State.setF_out (s : State) (v : Byte) : (s.setF v).out = s.out := rfl

@[simp] theorem State.write1_regs (s : State) (a : Word) (v : Byte) : (s.write1 a v).regs = s.regs := rfl
@[simp] theorem State.write1_f (s : State) (a : Word) (v : Byte) : (s.write1 a v).f = s.f := rfl
@[simp] theorem State.write1_pc (s : State) (a : Word) (v : Byte) : (s.write1 a v).pc = s.pc := rfl
@[simp] theorem State.write1_sp (s : State) (a : Word) (v : Byte) : (s.write1 a v).sp = s.sp := rfl
@[simp] theorem State.write1_mem (s : State) (a : Word) (v : Byte) : (s.write1 a v).mem = s.mem.write a.toNat v := rfl
@[simp] theorem State.write1_cnt (s : State) (a : Word) (v : Byte) : (s.write1 a v).cnt = s.cnt := rfl
@[simp] theorem State.write1_ud (s : State) (a : Word) (v : Byte) : (s.write1 a v).ud = s.ud := rfl
@[simp] theorem State.write1_out (s : State) (a : Word) (v : Byte) : (s.write1 a v).out = s.out := rfl

@[simp] theorem State.write2_regs (s : State) (a v : Word) : (s.write2 a v).regs = s.regs := rfl
@[simp] theorem State.write2_f (s : State) (a v : Word) : (s.write2 a v).f = s.f := rfl
@[simp] theorem State.write2_pc (s : State) (a v : Word) : (s.write2 a v).pc = s.pc := rfl
@[simp] theorem State.write2_sp (s : State) (a v : Word) : (s.write2 a v).sp = s.sp := rfl
@[simp] theorem State.write2_mem (s : State) (a v : Word) : (s.write2 a v).mem = (s.mem.write a.toNat (lowByte v)).write (a + 1).toNat (highByte v) := rfl
@[simp] theorem State.write2_cnt (s : State) (a v : Word) : (s.write2 a v).cnt = s.cnt := rfl
@[simp] theorem State.write2_ud (s : State) (a v : Word) : (s.write2 a v).ud = s.ud := rfl
@[simp] theorem State.write2_out (s : State) (a v : Word) : (s.write2 a v).out = s.out := rfl

@[simp] theorem raiseUndefinedOpcode_regs (s : State) : (raiseUndefinedOpcode s).regs = s.regs := rfl
@[simp] theorem raiseUndefinedOpcode_f (s : State) : (raiseUndefinedOpcode s).f = s.f := rfl
@[simp] theorem raiseUndefinedOpcode_pc (s : State) : (raiseUndefinedOpcode s).pc = s.pc := rfl
@[simp] theorem raiseUndefinedOpcode_sp (s : State) : (raiseUndefinedOpcode s).sp = s.sp := rfl
@[simp] theorem raiseUndefinedOpcode_mem (s : State) : (raiseUndefinedOpcode s).mem = s.mem := rfl
@[simp] theorem raiseUndefinedOpcode_cnt (s : State) : (raiseUndefinedOpcode s).cnt = s.cnt := rfl
@[simp] theorem raiseUndefinedOpcode_ud (s : State) : (raiseUndefinedOpcode s).ud = true := rfl
@[simp] theorem raiseUndefinedOpcode_out (s : State) : (raiseUndefinedOpcode s).out = { s.out with undef := true } := rfl

@[simp] theorem countDown_regs (s : State) : (countDown s).regs = s.regs := rfl
@[simp] theorem countDown_f (s : State) : (countDown s).f = s.f := rfl
@[simp] theorem countDown_pc (s : State) : (countDown s).pc = s.pc := rfl
@[simp] theorem countDown_sp (s : State) : (countDown s).sp = s.sp := rfl
@[simp] theorem countDown_mem (s : State) : (countDown s).mem = s.mem := rfl
@[simp] theorem countDown_cnt (s : State) : (countDown s).cnt = s.cnt - 1 := rfl
@[simp] theorem countDown_ud (s : State) : (countDown s).ud = s.ud := rfl
@[simp] theorem countDown_out (s : State) : (countDown s).out = { fetched := false, undef := false } := rfl

@[simp] theorem beginFetch_regs (s : State) : (beginFetch s).regs = s.regs := rfl
@[simp] theorem beginFetch_f (s : State) : (beginFetch s).f = s.f := rfl
@[simp] theorem beginFetch_pc (s : State) : (beginFetch s).pc = s.pc := rfl
@[simp] theorem beginFetch_sp (s : State) : (beginFetch s).sp = s.sp := rfl
@[simp] theorem beginFetch_mem (s : State) : (beginFetch s).mem = s.mem := rfl
@[simp] theorem beginFetch_cnt (s : State) : (beginFetch s).cnt = s.cnt := rfl
@[simp] theorem beginFetch_ud (s : State) : (beginFetch s).ud = s.ud := rfl
@[simp] theorem beginFetch_out (s : State) : (beginFetch s).out = { s.out with fetched := true } := rfl

@[simp] theorem finishAt_regs (s : State) (op : Byte) (target : Word) : (finishAt op target s).regs = s.regs := rfl
@[simp] theorem finishAt_f (s : State) (op : Byte) (target : Word) : (finishAt op target s).f = s.f := rfl
@[simp] theorem finishAt_pc (s : State) (op : Byte) (target : Word) : (finishAt op target s).pc = target := rfl
@[simp] theorem finishAt_sp (s : State) (op : Byte) (target : Word) : (finishAt op target s).sp = s.sp := rfl
@[simp] theorem finishAt_mem (s : State) (op : Byte) (target : Word) : (finishAt op target s).mem = s.mem := rfl
@[simp] theorem finishAt_cnt (s : State) (op : Byte) (target : Word) : (finishAt op target s).cnt = Int.ofNat (cyclesOf op) := rfl
@[simp] theorem finishAt_ud (s : State) (op : Byte) (target : Word) : (finishAt op target s).ud = s.ud := rfl
@[simp] theorem finishAt_out (s : State) (op : Byte) (target : Word) : (finishAt op target s).out = s.out := rfl

@[simp] theorem setAluFlags_regs (s : State) (o : AluOut) : (setAluFlags o s).regs = s.regs := rfl
@[simp] theorem setAluFlags_f (s : State) (o : AluOut) : (setAluFlags o s).f = assignAlu s.f o := rfl
@[simp] theorem setAluFlags_pc (s : State) (o : AluOut) : (setAluFlags o s).pc = s.pc := rfl
@[simp] theorem setAluFlags_sp (s : State) (o : AluOut) : (setAluFlags o s).sp = s.sp := rfl
@[simp] theorem setAluFlags_mem (s : State) (o : AluOut) : (setAluFlags o s).mem = s.mem := rfl
@[simp] theorem setAluFlags_cnt (s : State) (o : AluOut) : (setAluFlags o s).cnt = s.cnt := rfl
@[simp] theorem setAluFlags_ud (s : State) (o : AluOut) : (setAluFlags o s).ud = s.ud := rfl
@[simp] theorem setAluFlags_out (s : State) (o : AluOut) : (setAluFlags o s).out = s.out := rfl

@[simp] theorem accumulate_regs (s : State) (o : AluOut) : (accumulate o s).regs = { s.regs with a := o.res } := rfl
@[simp] theorem accumulate_f (s : State) (o : AluOut) : (accumulate o s).f = assignAlu s.f o := rfl
@[simp] theorem accumulate_pc (s : State) (o : AluOut) : (accumulate o s).pc = s.pc := rfl
@[simp] theorem accumulate_sp (s : State) (o : AluOut) : (accumulate o s).sp = s.sp := rfl
@[simp] theorem accumulate_mem (s : State) (o : AluOut) : (accumulate o s).mem = s.mem := rfl
@[simp] theorem accumulate_cnt (s : State) (o : AluOut) : (accumulate o s).cnt = s.cnt := rfl
@[simp] theorem accumulate_ud (s : State) (o : AluOut) : (accumulate o s).ud = s.ud := rfl
@[simp] theorem accumulate_out (s : State) (o : AluOut) : (accumulate o s).out = s.out := rfl

@[simp] theorem setCarry_regs (s : State) (b : Bool) : (setCarry b s).regs = s.regs := rfl
@[simp] theorem setCarry_f (s : State) (b : Bool) : (setCarry b s).f = assignFlag s.f maskCY b := rfl
@[simp] theorem setCarry_pc (s : State) (b : Bool) : (setCarry b s).pc = s.pc := rfl
@[simp] theorem setCarry_sp (s : State) (b : Bool) : (setCarry b s).sp = s.sp := rfl
@[simp] theorem setCarry_mem (s : State) (b : Bool) : (setCarry b s).mem = s.mem := rfl
@[simp] theorem setCarry_cnt (s : State) (b : Bool) : (setCarry b s).cnt = s.cnt := rfl
@[simp] theorem setCarry_ud (s : State) (b : Bool) : (setCarry b s).ud = s.ud := rfl
@[simp] theorem setCarry_out (s : State) (b : Bool) : (setCarry b s).out = s.out := rfl

@[simp] theorem hostReset_regs (s : State) (p : ResetParams) : (hostReset p s).regs = p.regs := rfl
@[simp] theorem hostReset_f (s : State) (p : ResetParams) : (hostReset p s).f = 0x02 := rfl
@[simp] theorem hostReset_pc (s : State) (p : ResetParams) : (hostReset p s).pc = 0x0000 := rfl
@[simp] theorem hostReset_sp (s : State) (p : ResetParams) : (hostReset p s).sp = p.sp := rfl
@[simp] theorem hostReset_mem (s : State) (p : ResetParams) : (hostReset p s).mem = s.mem := rfl
@[simp] theorem hostReset_cnt (s : State) (p : ResetParams) : (hostReset p s).cnt = 0 := rfl
@[simp] theorem hostReset_ud (s : State) (p : ResetParams) : (hostReset p s).ud = false := rfl
@[simp] theorem hostReset_out (s : State) (p : ResetParams) : (hostReset p s).out = { fetched := false, undef := false } := rfl

@[simp] theorem hostWrite_regs (s : State) (a : Word) (v : Byte) : (hostWrite a v s).regs = s.regs := rfl
@[simp] theorem hostWrite_f (s : State) (a : Word) (v : Byte) : (hostWrite a v s).f = s.f := rfl
@[simp] theorem hostWrite_pc (s : State) (a : Word) (v : Byte) : (hostWrite a v s).pc = s.pc := rfl
@[simp] theorem hostWrite_sp (s : State) (a : Word) (v : Byte) : (hostWrite a v s).sp = s.sp := rfl
@[simp] theorem hostWrite_mem (s : State) (a : Word) (v : Byte) : (hostWrite a v s).mem = s.mem.write a.toNat v := rfl
@[simp] theorem hostWrite_cnt (s : State) (a : Word) (v : Byte) : (hostWrite a v s).cnt = s.cnt := rfl
@[simp] theorem hostWrite_ud (s : State) (a : Word) (v : Byte) : (hostWrite a v s).ud = s.ud := rfl
@[simp] theorem hostWrite_out (s : State) (a : Word) (v : Byte) : (hostWrite a v s).out = s.out := rfl

@[simp] theorem Regs.set_b_b (r : Regs) (v : Byte) : (r.set .b v).b = v := rfl
@[simp] theorem Regs.set_b_c (r : Regs) (v : Byte) : (r.set .b v).c = r.c := rfl
@[simp] theorem Regs.set_b_d (r : Regs) (v : Byte) : (r.set .b v).d = r.d := rfl
@[simp] theorem Regs.set_b_e (r : Regs) (v : Byte) : (r.set .b v).e = r.e := rfl
@[simp] theorem Regs.set_b_h (r : Regs) (v : Byte) : (r.set .b v).h = r.h := rfl
@[simp] theorem Regs.set_b_l (r : Regs) (v : Byte) : (r.set .b v).l = r.l := rfl
@[simp] theorem Regs.set_b_cell6 (r : Regs) (v : Byte) : (r.set .b v).cell6 = r.cell6 := rfl
@[simp] theorem Regs.set_b_a (r : Regs) (v : Byte) : (r.set .b v).a = r.a := rfl
@[simp] theorem Regs.set_c_b (r : Regs) (v : Byte) : (r.set .c v).b = r.b := rfl
@[simp] theorem Regs.set_c_c (r : Regs) (v : Byte) : (r.set .c v).c = v := rfl
@[simp] theorem Regs.set_c_d (r : Regs) (v : Byte) : (r.set .c v).d = r.d := rfl
@[simp] theorem Regs.set_c_e (r : Regs) (v : Byte) : (r.set .c v).e = r.e := rfl
@[simp] theorem Regs.set_c_h (r : Regs) (v : Byte) : (r.set .c v).h = r.h := rfl
@[simp] theorem Regs.set_c_l (r : Regs) (v : Byte) : (r.set .c v).l = r.l := rfl
@[simp] theorem Regs.set_c_cell6 (r : Regs) (v : Byte) : (r.set .c v).cell6 = r.cell6 := rfl
@[simp] theorem Regs.set_c_a (r : Regs) (v : Byte) : (r.set .c v).a = r.a := rfl
@[simp] theorem Regs.set_d_b (r : Regs) (v : Byte) : (r.set .d v).b = r.b := rfl
@[simp] theorem Regs.set_d_c (r : Regs) (v : Byte) : (r.set .d v).c = r.c := rfl
@[simp] theorem Regs.set_d_d (r : Regs) (v : Byte) : (r.set .d v).d = v := rfl
@[simp] theorem Regs.set_d_e (r : Regs) (v : Byte) : (r.set .d v).e = r.e := rfl
@[simp] theorem Regs.set_d_h (r : Regs) (v : Byte) : (r.set .d v).h = r.h := rfl
@[simp] theorem Regs.set_d_l (r : Regs) (v : Byte) : (r.set .d v).l = r.l := rfl
@[simp] theorem Regs.set_d_cell6 (r : Regs) (v : Byte) : (r.set .d v).cell6 = r.cell6 := rfl
@[simp] theorem Regs.set_d_a (r : Regs) (v : Byte) : (r.set .d v).a = r.a := rfl
@[simp] theorem Regs.set_e_b (r : Regs) (v : Byte) : (r.set .e v).b = r.b := rfl
@[simp] theorem Regs.set_e_c (r : Regs) (v : Byte) : (r.set .e v).c = r.c := rfl
@[simp] theorem Regs.set_e_d (r : Regs) (v : Byte) : (r.set .e v).d = r.d := rfl
@[simp] theorem Regs.set_e_e (r : Regs) (v : Byte) : (r.set .e v).e = v := rfl
@[simp] theorem Regs.set_e_h (r : Regs) (v : Byte) : (r.set .e v).h = r.h := rfl
@[simp] theorem Regs.set_e_l (r : Regs) (v : Byte) : (r.set .e v).l = r.l := rfl
@[simp] theorem Regs.set_e_cell6 (r : Regs) (v : Byte) : (r.set .e v).cell6 = r.cell6 := rfl
@[simp] theorem Regs.set_e_a (r : Regs) (v : Byte) : (r.set .e v).a = r.a := rfl
@[simp] theorem Regs.set_h_b (r : Regs) (v : Byte) : (r.set .h v).b = r.b := rfl
@[simp] theorem Regs.set_h_c (r : Regs) (v : Byte) : (r.set .h v).c = r.c := rfl
@[simp] theorem Regs.set_h_d (r : Regs) (v : Byte) : (r.set .h v).d = r.d := rfl
@[simp] theorem Regs.set_h_e (r : Regs) (v : Byte) : (r.set .h v).e = r.e := rfl
@[simp] theorem Regs.set_h_h (r : Regs) (v : Byte) : (r.set .h v).h = v := rfl
@[simp] theorem Regs.set_h_l (r : Regs) (v : Byte) : (r.set .h v).l = r.l := rfl
@[simp] theorem Regs.set_h_cell6 (r : Regs) (v : Byte) : (r.set .h v).cell6 = r.cell6 := rfl
@[simp] theorem Regs.set_h_a (r : Regs) (v : Byte) : (r.set .h v).a = r.a := rfl
@[simp] theorem Regs.set_l_b (r : Regs) (v : Byte) : (r.set .l v).b = r.b := rfl
@[simp] theorem Regs.set_l_c (r : Regs) (v : Byte) : (r.set .l v).c = r.c := rfl
@[simp] theorem Regs.set_l_d (r : Regs) (v : Byte) : (r.set .l v).d = r.d := rfl
@[simp] theorem Regs.set_l_e (r : Regs) (v : Byte) : (r.set .l v).e = r.e := rfl
@[simp] theorem Regs.set_l_h (r : Regs) (v : Byte) : (r.set .l v).h = r.h := rfl
@[simp] theorem Regs.set_l_l (r : Regs) (v : Byte) : (r.set .l v).l = v := rfl
@[simp] theorem Regs.set_l_cell6 (r : Regs) (v : Byte) : (r.set .l v).cell6 = r.cell6 := rfl
@[simp] theorem Regs.set_l_a (r : Regs) (v : Byte) : (r.set .l v).a = r.a := rfl
@[simp] theorem Regs.set_a_b (r : Regs) (v : Byte) : (r.set .a v).b = r.b := rfl
@[simp] theorem Regs.set_a_c (r : Regs) (v : Byte) : (r.set .a v).c = r.c := rfl
@[simp] theorem Regs.set_a_d (r : Regs) (v : Byte) : (r.set .a v).d = r.d := rfl
@[simp] theorem Regs.set_a_e (r : Regs) (v : Byte) : (r.set .a v).e = r.e := rfl
@[simp] theorem Regs.set_a_h (r : Regs) (v : Byte) : (r.set .a v).h = r.h := rfl
@[simp] theorem Regs.set_a_l (r : Regs) (v : Byte) : (r.set .a v).l = r.l := rfl
@[simp] theorem Regs.set_a_cell6 (r : Regs) (v : Byte) : (r.set .a v).cell6 = r.cell6 := rfl
@[simp] theorem Regs.set_a_a (r : Regs) (v : Byte) : (r.set .a v).a = v := rfl

@[simp] theorem Regs.setPair_bc_b (r : Regs) (v : Word) : (r.setPair .bc v).b = highByte v := rfl
@[simp] theorem Regs.setPair_bc_c (r : Regs) (v : Word) : (r.setPair .bc v).c = lowByte v := rfl
@[simp] theorem Regs.setPair_bc_d (r : Regs) (v : Word) : (r.setPair .bc v).d = r.d := rfl
@[simp] theorem Regs.setPair_bc_e (r : Regs) (v : Word) : (r.setPair .bc v).e = r.e := rfl
@[simp] theorem Regs.setPair_bc_h (r : Regs) (v : Word) : (r.setPair .bc v).h = r.h := rfl
@[simp] theorem Regs.setPair_bc_l (r : Regs) (v : Word) : (r.setPair .bc v).l = r.l := rfl
@[simp] theorem Regs.setPair_bc_cell6 (r : Regs) (v : Word) : (r.setPair .bc v).cell6 = r.cell6 := rfl
@[simp] theorem Regs.setPair_bc_a (r : Regs) (v : Word) : (r.setPair .bc v).a = r.a := rfl
@[simp] theorem Regs.setPair_de_b (r : Regs) (v : Word) : (r.setPair .de v).b = r.b := rfl
@[simp] theorem Regs.setPair_de_c (r : Regs) (v : Word) : (r.setPair .de v).c = r.c := rfl
@[simp] theorem Regs.setPair_de_d (r : Regs) (v : Word) : (r.setPair .de v).d = highByte v := rfl
@[simp] theorem Regs.setPair_de_e (r : Regs) (v : Word) : (r.setPair .de v).e = lowByte v := rfl
@[simp] theorem Regs.setPair_de_h (r : Regs) (v : Word) : (r.setPair .de v).h = r.h := rfl
@[simp] theorem Regs.setPair_de_l (r : Regs) (v : Word) : (r.setPair .de v).l = r.l := rfl
@[simp] theorem Regs.setPair_de_cell6 (r : Regs) (v : Word) : (r.setPair .de v).cell6 = r.cell6 := rfl
@[simp] theorem Regs.setPair_de_a (r : Regs) (v : Word) : (r.setPair .de v).a = r.a := rfl
@[simp] theorem Regs.setPair_hl_b (r : Regs) (v : Word) : (r.setPair .hl v).b = r.b := rfl
@[simp] theorem Regs.setPair_hl_c (r : Regs) (v : Word) : (r.setPair .hl v).c = r.c := rfl
@[simp] theorem Regs.setPair_hl_d (r : Regs) (v : Word) : (r.setPair .hl v).d = r.d := rfl
@[simp] theorem Regs.setPair_hl_e (r : Regs) (v : Word) : (r.setPair .hl v).e = r.e := rfl
@[simp] theorem Regs.setPair_hl_h (r : Regs) (v : Word) : (r.setPair .hl v).h = highByte v := rfl
@[simp] theorem Regs.setPair_hl_l (r : Regs) (v : Word) : (r.setPair .hl v).l = lowByte v := rfl
@[simp] theorem Regs.setPair_hl_cell6 (r : Regs) (v : Word) : (r.setPair .hl v).cell6 = r.cell6 := rfl
@[simp] theorem Regs.setPair_hl_a (r : Regs) (v : Word) : (r.setPair .hl v).a = r.a := rfl

@[simp] theorem Regs.get_b (r : Regs) : r.get .b = r.b := rfl
@[simp] theorem Regs.get_c (r : Regs) : r.get .c = r.c := rfl
@[simp] theorem Regs.get_d (r : Regs) : r.get .d = r.d := rfl
@[simp] theorem Regs.get_e (r : Regs) : r.get .e = r.e := rfl
@[simp] theorem Regs.get_h (r : Regs) : r.get .h = r.h := rfl
@[simp] theorem Regs.get_l (r : Regs) : r.get .l = r.l := rfl
@[simp] theorem Regs.get_a (r : Regs) : r.get .a = r.a := rfl

/-- A register operand is the cell at its operand code (10_state.md R11). -/
theorem Regs.get_eq_cell (r : Regs) (x : Reg) : r.get x = r.cell (match x with
    | .b => 0 | .c => 1 | .d => 2 | .e => 3 | .h => 4 | .l => 5 | .a => 7) := by
  cases x <;> rfl

end Sys2Proof.Machine
end

