-- ==== Sys2Proof/Laws/Flags.lean ====
section
/-! SUPPORT. The flag byte bit by bit: what assigning a flag, and the five flags of an ALU result, does to each bit
(10_state.md R15 to R17, 40_alu_flags.md R71). -/

namespace Sys2Proof.Machine

theorem testFlag_maskCY (f : Byte) : testFlag f maskCY = f.getLsbD 0 := by revert f; decide

theorem testFlag_maskAC (f : Byte) : testFlag f maskAC = f.getLsbD 4 := by revert f; decide

theorem assignFlag_getLsbD (f mask : Byte) (b : Bool) (i : Nat) (hi : i < 8) :
    (assignFlag f mask b).getLsbD i = if mask.getLsbD i then b else f.getLsbD i := by
  cases b <;> simp [assignFlag, setFlag, clearFlag, hi, Bool.and_comm, Bool.or_comm]

/-- Every bit of the flag byte after the five condition bits are assigned. -/
theorem assignAlu_getLsbD (f : Byte) (o : AluOut) (i : Nat) (hi : i < 8) :
    (assignAlu f o).getLsbD i = if i = 0 then o.cy else if i = 2 then o.p else if i = 4 then o.ac
      else if i = 6 then o.z else if i = 7 then o.s else f.getLsbD i := by
  unfold assignAlu
  simp only [assignFlag_getLsbD _ _ _ _ hi]
  interval_cases i <;> simp [maskCY, maskP, maskAC, maskZ, maskS]

/-- Assigning Carry touches bit 0 alone. -/
theorem setCarry_getLsbD (f : Byte) (b : Bool) (i : Nat) (hi : i < 8) :
    (assignFlag f maskCY b).getLsbD i = if i = 0 then b else f.getLsbD i := by
  rw [assignFlag_getLsbD _ _ _ _ hi]
  interval_cases i <;> simp [maskCY]

/-- The bits no instruction writes are kept (10_state.md R16). -/
theorem assignAlu_unused (f : Byte) (o : AluOut) : assignAlu f o &&& 0x2A#8 = f &&& 0x2A#8 := by
  apply BitVec.eq_of_getLsbD_eq
  intro i hi
  simp only [BitVec.getLsbD_and, assignAlu_getLsbD f o i hi]
  interval_cases i <;> simp

theorem assignCarry_unused (f : Byte) (b : Bool) : assignFlag f maskCY b &&& 0x2A#8 = f &&& 0x2A#8 := by
  apply BitVec.eq_of_getLsbD_eq
  intro i hi
  simp only [BitVec.getLsbD_and, setCarry_getLsbD f b i hi]
  interval_cases i <;> simp

theorem assignCarry_rest (f : Byte) (b : Bool) : assignFlag f maskCY b &&& 0xFE#8 = f &&& 0xFE#8 := by
  apply BitVec.eq_of_getLsbD_eq
  intro i hi
  simp only [BitVec.getLsbD_and, setCarry_getLsbD f b i hi]
  interval_cases i <;> simp

/-- Assigning flags commutes with replacing the bits no instruction writes. -/
theorem assignAlu_replaceUnused (f x : Byte) (o : AluOut) :
    assignAlu ((f &&& 0xD5#8) ||| (x &&& 0x2A#8)) o = (assignAlu f o &&& 0xD5#8) ||| (x &&& 0x2A#8) := by
  apply BitVec.eq_of_getLsbD_eq
  intro i hi
  simp only [assignAlu_getLsbD _ _ i hi, BitVec.getLsbD_or, BitVec.getLsbD_and]
  interval_cases i <;> simp

theorem assignCarry_replaceUnused (f x : Byte) (b : Bool) :
    assignFlag ((f &&& 0xD5#8) ||| (x &&& 0x2A#8)) maskCY b = (assignFlag f maskCY b &&& 0xD5#8) ||| (x &&& 0x2A#8) := by
  apply BitVec.eq_of_getLsbD_eq
  intro i hi
  simp only [setCarry_getLsbD _ _ i hi, BitVec.getLsbD_or, BitVec.getLsbD_and]
  interval_cases i <;> simp

/-- The result and the flags an ALU operation hands on are those it was given, with Z, S, P of the result. -/
@[simp] theorem aluOut_res (res : Byte) (ac cy : Bool) : (aluOut res ac cy).res = res := rfl
@[simp] theorem aluOut_s (res : Byte) (ac cy : Bool) : (aluOut res ac cy).s = res.msb := rfl
@[simp] theorem aluOut_z (res : Byte) (ac cy : Bool) : (aluOut res ac cy).z = (res == 0) := rfl
@[simp] theorem aluOut_ac (res : Byte) (ac cy : Bool) : (aluOut res ac cy).ac = ac := rfl
@[simp] theorem aluOut_p (res : Byte) (ac cy : Bool) : (aluOut res ac cy).p = (popcount8 res % 2 == 0) := rfl
@[simp] theorem aluOut_cy (res : Byte) (ac cy : Bool) : (aluOut res ac cy).cy = cy := rfl

end Sys2Proof.Machine
end

