-- ==== Sys2Proof/Laws/Alu.lean ====
section
/-! SUPPORT. Once for the ALU: the results and flags of Machine/Flags.lean, computed there on integers, in the terms the
statements are written in (40_alu_flags.md R60 to R73). -/

namespace Sys2Proof.Machine

open Sys2Proof.Safety

/-- The Parity flag in its exclusive-or form (R63). -/
theorem popcount8_even : ∀ v : Byte, (popcount8 v % 2 == 0) = evenParity v := by decide +kernel

/-- The Sign flag as a comparison (R62). -/
theorem msb_eq_decide : ∀ v : Byte, v.msb = decide (128 ≤ v.toNat) := by decide +kernel

/-- The Zero flag as a comparison (R61). -/
theorem beq_zero_eq_decide : ∀ v : Byte, (v == 0#8) = decide (v.toNat = 0) := by decide +kernel

/-- The five condition bits after an ALU result is written to the flag byte. -/
theorem conditionBits_assignAlu (f res : Byte) (ac cy : Bool) :
    ConditionBits (assignAlu f (aluOut res ac cy)) (decide (128 ≤ res.toNat)) (decide (res.toNat = 0)) ac (evenParity res)
      cy := by
  refine ⟨?_, ?_, ?_, ?_, ?_⟩ <;> rw [assignAlu_getLsbD _ _ _ (by omega)] <;>
    simp [popcount8_even, msb_eq_decide, beq_zero_eq_decide]

/-- ADD8, as a sum of bytes with its two carries. -/
theorem add8_eq (a b : Byte) (c : Bool) :
    add8 a b c = aluOut (a + b + bitByte c) (halfCarry a b c) (carryOut a b c) := by
  have hres : BitVec.ofNat 8 (a.toNat + b.toNat + c.toNat) = a + b + bitByte c := by
    apply BitVec.eq_of_toNat_eq
    cases c <;> simp [bitByte, BitVec.toNat_add]
  simp only [add8, halfCarry, carryOut, lowNibble, hres, gt_iff_lt]

/-- SUB8, as a difference of bytes with its two borrows. -/
theorem sub8_eq (a b : Byte) (c : Bool) :
    sub8 a b c = aluOut (a - b - bitByte c) (halfBorrow a b c) (borrowOut a b c) := by
  have hres : BitVec.ofInt 8 ((a.toNat : Int) - b.toNat - c.toNat) = a - b - bitByte c := by
    apply BitVec.eq_of_toNat_eq
    have ha := a.isLt
    have hb := b.isLt
    cases c <;> simp [bitByte, BitVec.toNat_sub, BitVec.toNat_ofInt] <;> omega
  have hhalf : decide (((a.toNat % 16 : Nat) : Int) - (b.toNat % 16 : Nat) - c.toNat < 0)
      = decide (a.toNat % 16 < b.toNat % 16 + c.toNat) := decide_eq_decide.2 (by omega)
  have hborrow : decide ((a.toNat : Int) - b.toNat - c.toNat < 0) = decide (a.toNat < b.toNat + c.toNat) :=
    decide_eq_decide.2 (by omega)
  unfold sub8 halfBorrow borrowOut lowNibble
  simp only [hres, hhalf, hborrow]

end Sys2Proof.Machine
end

