-- ==== Sys2Proof/Laws/Memory.lean ====
section
/-! SUPPORT. The laws of memory: a read after a write, and that every operation keeps the canonical form. -/

namespace Sys2Proof.Machine

theorem Memory.wfFrom_mono {m : Memory} {lo lo' : Nat} (h : Memory.wfFrom lo m = true) (hle : lo' ≤ lo) :
    Memory.wfFrom lo' m = true := by
  cases m with
  | nil => rfl
  | cons c rest =>
    simp only [Memory.wfFrom, Bool.and_eq_true, decide_eq_true_eq] at h ⊢
    exact ⟨⟨⟨by omega, h.1.1.2⟩, h.1.2⟩, h.2⟩

/-- An address below every listed one reads as unlisted. -/
theorem Memory.read_of_lt {m : Memory} {lo a : Nat} (h : Memory.wfFrom lo m = true) (hlt : a < lo) :
    m.read a = Config.unlistedByte := by
  induction m generalizing lo with
  | nil => rfl
  | cons c rest ih =>
    simp only [Memory.wfFrom, Bool.and_eq_true, decide_eq_true_eq] at h
    have hne : c.1 ≠ a := by omega
    simp only [Memory.read, if_neg hne]
    exact ih h.2 (by omega)

theorem Memory.read_put_same {rest : Memory} {a : Nat} (v : Byte) (h : Memory.wfFrom (a + 1) rest = true) :
    (Memory.put a v rest).read a = v := by
  unfold Memory.put
  split
  · rename_i hv; rw [hv]; exact Memory.read_of_lt h (by omega)
  · simp [Memory.read]

theorem Memory.read_put_other {rest : Memory} {a b : Nat} (v : Byte) (hne : b ≠ a) :
    (Memory.put a v rest).read b = rest.read b := by
  unfold Memory.put
  split
  · rfl
  · simp [Memory.read, Ne.symm hne]

theorem Memory.put_wfFrom {rest : Memory} {lo a : Nat} (v : Byte) (hlo : lo ≤ a) (ha : a < Config.memSize)
    (h : Memory.wfFrom (a + 1) rest = true) : Memory.wfFrom lo (Memory.put a v rest) = true := by
  unfold Memory.put
  split
  · exact Memory.wfFrom_mono h (by omega)
  · rename_i hv; simp [Memory.wfFrom, hlo, ha, hv, h]

/-- A write keeps the canonical form. -/
theorem Memory.write_wfFrom {m : Memory} {lo a : Nat} (v : Byte) (h : Memory.wfFrom lo m = true) (hlo : lo ≤ a)
    (ha : a < Config.memSize) : Memory.wfFrom lo (m.write a v) = true := by
  induction m generalizing lo with
  | nil => exact Memory.put_wfFrom v hlo ha rfl
  | cons c rest ih =>
    obtain ⟨k, w⟩ := c
    simp only [Memory.wfFrom, Bool.and_eq_true, decide_eq_true_eq] at h
    simp only [Memory.write]
    split
    · rename_i hk
      simp only [Memory.wfFrom, Bool.and_eq_true, decide_eq_true_eq]
      exact ⟨h.1, ih h.2 (by omega)⟩
    · split
      · rename_i hk; subst hk; exact Memory.put_wfFrom v h.1.1.1 h.1.1.2 h.2
      · apply Memory.put_wfFrom v hlo ha
        simp only [Memory.wfFrom, Bool.and_eq_true, decide_eq_true_eq]
        exact ⟨⟨⟨by omega, h.1.1.2⟩, h.1.2⟩, h.2⟩

/-- A read of the address just written gives the byte written. -/
theorem Memory.read_write_same {m : Memory} {lo a : Nat} (v : Byte) (h : Memory.wfFrom lo m = true) :
    (m.write a v).read a = v := by
  induction m generalizing lo with
  | nil => exact Memory.read_put_same v rfl
  | cons c rest ih =>
    obtain ⟨k, w⟩ := c
    simp only [Memory.wfFrom, Bool.and_eq_true, decide_eq_true_eq] at h
    simp only [Memory.write]
    split
    · rename_i hk
      have hne : k ≠ a := by omega
      simp only [Memory.read, if_neg hne]
      exact ih h.2
    · split
      · rename_i hk; subst hk; exact Memory.read_put_same v h.2
      · apply Memory.read_put_same v
        simp only [Memory.wfFrom, Bool.and_eq_true, decide_eq_true_eq]
        exact ⟨⟨⟨by omega, h.1.1.2⟩, h.1.2⟩, h.2⟩

/-- A write leaves every other address alone. -/
theorem Memory.read_write_other {m : Memory} {lo a b : Nat} (v : Byte) (h : Memory.wfFrom lo m = true) (hne : b ≠ a) :
    (m.write a v).read b = m.read b := by
  induction m generalizing lo with
  | nil => exact Memory.read_put_other v hne
  | cons c rest ih =>
    obtain ⟨k, w⟩ := c
    simp only [Memory.wfFrom, Bool.and_eq_true, decide_eq_true_eq] at h
    simp only [Memory.write]
    split
    · simp only [Memory.read]
      split
      · rfl
      · exact ih h.2
    · split
      · rename_i hk; subst hk
        rw [Memory.read_put_other v hne]
        simp [Memory.read, Ne.symm hne]
      · exact Memory.read_put_other v hne

theorem Memory.write_wf {m : Memory} (a : Word) (v : Byte) (h : m.wf = true) : (m.write a.toNat v).wf = true :=
  Memory.write_wfFrom v h (Nat.zero_le _) a.isLt

theorem State.reset_mem_wf : State.reset.mem.wf = true := rfl

/-- After `MemWrite(a, 1, v)`, `MemRead(b, 1)` is `v` at `a` and as before elsewhere. -/
theorem State.read1_write1 {s : State} (a b : Word) (v : Byte) (h : s.mem.wf = true) :
    (s.write1 a v).read1 b = if b = a then v else s.read1 b := by
  unfold State.read1
  split
  · rename_i hb; subst hb; exact Memory.read_write_same v h
  · rename_i hb
    exact Memory.read_write_other v h fun he => hb (BitVec.eq_of_toNat_eq he)

theorem State.write1_wf {s : State} (a : Word) (v : Byte) (h : s.mem.wf = true) : (s.write1 a v).mem.wf = true :=
  Memory.write_wf a v h

theorem State.write2_wf {s : State} (a v : Word) (h : s.mem.wf = true) : (s.write2 a v).mem.wf = true :=
  State.write1_wf _ _ (State.write1_wf _ _ h)

/-- Reads see memory alone. -/
theorem State.read1_congr {s t : State} (h : t.mem = s.mem) (a : Word) : t.read1 a = s.read1 a := by
  simp [State.read1, h]

@[simp] theorem highByte_joinBytes (hi lo : Byte) : highByte (joinBytes hi lo) = hi := by
  unfold highByte joinBytes
  apply BitVec.eq_of_getLsbD_eq
  intro i hi'
  simp only [BitVec.getLsbD_extractLsb', BitVec.getLsbD_append]
  simp [hi']

@[simp] theorem lowByte_joinBytes (hi lo : Byte) : lowByte (joinBytes hi lo) = lo := by
  unfold lowByte joinBytes
  apply BitVec.eq_of_getLsbD_eq
  intro i hi'
  simp only [BitVec.getLsbD_extractLsb', BitVec.getLsbD_append]
  simp [hi']

/-- {hi, lo} is hi * 256 + lo (00_scope.md, Notation). -/
theorem joinBytes_toNat (hi lo : Byte) : (joinBytes hi lo).toNat = hi.toNat * 256 + lo.toNat := by
  have happ : (joinBytes hi lo).toNat = hi.toNat <<< 8 ||| lo.toNat := BitVec.toNat_append hi lo
  rw [happ, ← Nat.shiftLeft_add_eq_or_of_lt lo.isLt, Nat.shiftLeft_eq]

@[simp] theorem joinBytes_high_low (v : Word) : joinBytes (highByte v) (lowByte v) = v := by
  unfold highByte lowByte joinBytes
  apply BitVec.eq_of_getLsbD_eq
  intro i hi
  simp only [BitVec.getLsbD_append, BitVec.getLsbD_extractLsb']
  by_cases h : i < 8
  · simp [h]
  · have h1 : i - 8 < 8 := by omega
    have h2 : 8 + (i - 8) = i := by omega
    simp [h, h1, h2]

end Sys2Proof.Machine
end

