-- ==== Sys2Proof/Laws/Exec.lean ====
section
/-! SUPPORT. Once for all instructions: what `exec` does, as the handler an opcode selects (30_encoding.md R53) followed by the
scheduler's part (49_step_scheduler.md R143). A proof over all instructions splits on the handler, not on 256 arms. -/

namespace Sys2Proof.Machine

/-- Where the second operand of an ALU instruction comes from (30_encoding.md R47). -/
inductive Source where
  | reg (r : Reg)
  | m
  | imm (d8 : Byte)
deriving DecidableEq, Repr

/-- The eight accumulator operations (R46). -/
inductive AluKind where
  | add | adc | sub | sbb | ana | xra | ora | cmp
deriving DecidableEq, Repr

/-- The four rotates (45_rotate.md). -/
inductive RotateKind where
  | rlc | rrc | ral | rar
deriving DecidableEq, Repr

/-- The handler an opcode selects (R53), with its operands. -/
inductive Handler where
  | alu (k : AluKind) (src : Source)
  | daa
  | rotate (k : RotateKind)
  | cma
  | cmc
  | stc
  | mviM (d8 : Byte)
  | lda (a16 : Word)
  | sta (a16 : Word)
  | lhld (a16 : Word)
  | shld (a16 : Word)
  | xchg
  | jmp (a16 : Word)
  | fallback
deriving DecidableEq, Repr

def Source.value (src : Source) (s : State) : Byte :=
  match src with
  | .reg r => s.regs.get r
  | .m => operandM s
  | .imm d8 => d8

def AluKind.apply (k : AluKind) (b : Byte) (s : State) : State :=
  match k with
  | .add => addAcc b s
  | .adc => adcAcc b s
  | .sub => subAcc b s
  | .sbb => sbbAcc b s
  | .ana => anaAcc b s
  | .xra => xraAcc b s
  | .ora => oraAcc b s
  | .cmp => cmpAcc b s

/-- The new accumulator and carry of a rotate from the old ones (45_rotate.md R125 to R128). -/
def RotateKind.value (k : RotateKind) (a : Byte) (c : Bool) : Byte × Bool :=
  match k with
  | .rlc => (joinLow (a.extractLsb' 0 7) (a.getLsbD 7), a.getLsbD 7)
  | .rrc => (joinHigh (a.getLsbD 0) (a.extractLsb' 1 7), a.getLsbD 0)
  | .ral => (joinLow (a.extractLsb' 0 7) c, a.getLsbD 7)
  | .rar => (joinHigh c (a.extractLsb' 1 7), a.getLsbD 0)

/-- The handler's effect, without PC and cnt. -/
def Handler.effect (h : Handler) (s : State) : State :=
  match h with
  | .alu k src => k.apply (src.value s) s
  | .daa => adjustWith daaFn s
  | .rotate k =>
    setCarry (k.value s.regs.a (testFlag s.f maskCY)).2 (s.setReg .a (k.value s.regs.a (testFlag s.f maskCY)).1)
  | .cma => s.setReg .a (s.regs.a ^^^ 0xFF)
  | .cmc => setCarry (!testFlag s.f maskCY) s
  | .stc => setCarry true s
  | .mviM d8 => s.write1 (addressM s) d8
  | .lda a16 => s.setReg .a (s.read1 a16)
  | .sta a16 => s.write1 a16 s.regs.a
  | .lhld a16 => s.setPair .hl (s.read2 a16)
  | .shld a16 => s.write2 a16 (s.regs.pair .hl)
  | .xchg => (s.setPair .hl (s.regs.pair .de)).setPair .de (s.regs.pair .hl)
  | .jmp _ => s
  | .fallback => raiseUndefinedOpcode s

/-- PC after the fetch tick of an instruction with this handler and opcode byte. -/
def Handler.nextPc (h : Handler) (op : Byte) (s : State) : Word :=
  match h with
  | .jmp a16 => a16
  | _ => s.pc + BitVec.ofNat 16 (lenOf op)

/-- The handler of each instruction. -/
def handlerOf : Instr → Handler
  | .undef00 => .fallback
  | .undef01 => .fallback
  | .undef02 => .fallback
  | .undef03 => .fallback
  | .undef04 => .fallback
  | .undef05 => .fallback
  | .undef06 => .fallback
  | .rlc => .rotate .rlc
  | .undef08 => .fallback
  | .undef09 => .fallback
  | .undef0A => .fallback
  | .undef0B => .fallback
  | .undef0C => .fallback
  | .undef0D => .fallback
  | .undef0E => .fallback
  | .rrc => .rotate .rrc
  | .undef10 => .fallback
  | .undef11 => .fallback
  | .undef12 => .fallback
  | .undef13 => .fallback
  | .undef14 => .fallback
  | .undef15 => .fallback
  | .undef16 => .fallback
  | .ral => .rotate .ral
  | .undef18 => .fallback
  | .undef19 => .fallback
  | .undef1A => .fallback
  | .undef1B => .fallback
  | .undef1C => .fallback
  | .undef1D => .fallback
  | .undef1E => .fallback
  | .rar => .rotate .rar
  | .undef20 => .fallback
  | .undef21 => .fallback
  | .shld a16 => .shld a16
  | .undef23 => .fallback
  | .undef24 => .fallback
  | .undef25 => .fallback
  | .undef26 => .fallback
  | .daa => .daa
  | .undef28 => .fallback
  | .undef29 => .fallback
  | .lhld a16 => .lhld a16
  | .undef2B => .fallback
  | .undef2C => .fallback
  | .undef2D => .fallback
  | .undef2E => .fallback
  | .cma => .cma
  | .undef30 => .fallback
  | .undef31 => .fallback
  | .sta a16 => .sta a16
  | .undef33 => .fallback
  | .undef34 => .fallback
  | .undef35 => .fallback
  | .mviM d8 => .mviM d8
  | .stc => .stc
  | .undef38 => .fallback
  | .undef39 => .fallback
  | .lda a16 => .lda a16
  | .undef3B => .fallback
  | .undef3C => .fallback
  | .undef3D => .fallback
  | .undef3E => .fallback
  | .cmc => .cmc
  | .undef40 => .fallback
  | .undef41 => .fallback
  | .undef42 => .fallback
  | .undef43 => .fallback
  | .undef44 => .fallback
  | .undef45 => .fallback
  | .undef46 => .fallback
  | .undef47 => .fallback
  | .undef48 => .fallback
  | .undef49 => .fallback
  | .undef4A => .fallback
  | .undef4B => .fallback
  | .undef4C => .fallback
  | .undef4D => .fallback
  | .undef4E => .fallback
  | .undef4F => .fallback
  | .undef50 => .fallback
  | .undef51 => .fallback
  | .undef52 => .fallback
  | .undef53 => .fallback
  | .undef54 => .fallback
  | .undef55 => .fallback
  | .undef56 => .fallback
  | .undef57 => .fallback
  | .undef58 => .fallback
  | .undef59 => .fallback
  | .undef5A => .fallback
  | .undef5B => .fallback
  | .undef5C => .fallback
  | .undef5D => .fallback
  | .undef5E => .fallback
  | .undef5F => .fallback
  | .undef60 => .fallback
  | .undef61 => .fallback
  | .undef62 => .fallback
  | .undef63 => .fallback
  | .undef64 => .fallback
  | .undef65 => .fallback
  | .undef66 => .fallback
  | .undef67 => .fallback
  | .undef68 => .fallback
  | .undef69 => .fallback
  | .undef6A => .fallback
  | .undef6B => .fallback
  | .undef6C => .fallback
  | .undef6D => .fallback
  | .undef6E => .fallback
  | .undef6F => .fallback
  | .undef70 => .fallback
  | .undef71 => .fallback
  | .undef72 => .fallback
  | .undef73 => .fallback
  | .undef74 => .fallback
  | .undef75 => .fallback
  | .undef76 => .fallback
  | .undef77 => .fallback
  | .undef78 => .fallback
  | .undef79 => .fallback
  | .undef7A => .fallback
  | .undef7B => .fallback
  | .undef7C => .fallback
  | .undef7D => .fallback
  | .undef7E => .fallback
  | .undef7F => .fallback
  | .addB => .alu .add (.reg .b)
  | .addC => .alu .add (.reg .c)
  | .addD => .alu .add (.reg .d)
  | .addE => .alu .add (.reg .e)
  | .addH => .alu .add (.reg .h)
  | .addL => .alu .add (.reg .l)
  | .addM => .alu .add .m
  | .addA => .alu .add (.reg .a)
  | .adcB => .alu .adc (.reg .b)
  | .adcC => .alu .adc (.reg .c)
  | .adcD => .alu .adc (.reg .d)
  | .adcE => .alu .adc (.reg .e)
  | .adcH => .alu .adc (.reg .h)
  | .adcL => .alu .adc (.reg .l)
  | .adcM => .alu .adc .m
  | .adcA => .alu .adc (.reg .a)
  | .subB => .alu .sub (.reg .b)
  | .subC => .alu .sub (.reg .c)
  | .subD => .alu .sub (.reg .d)
  | .subE => .alu .sub (.reg .e)
  | .subH => .alu .sub (.reg .h)
  | .subL => .alu .sub (.reg .l)
  | .subM => .alu .sub .m
  | .subA => .alu .sub (.reg .a)
  | .sbbB => .alu .sbb (.reg .b)
  | .sbbC => .alu .sbb (.reg .c)
  | .sbbD => .alu .sbb (.reg .d)
  | .sbbE => .alu .sbb (.reg .e)
  | .sbbH => .alu .sbb (.reg .h)
  | .sbbL => .alu .sbb (.reg .l)
  | .sbbM => .alu .sbb .m
  | .sbbA => .alu .sbb (.reg .a)
  | .anaB => .alu .ana (.reg .b)
  | .anaC => .alu .ana (.reg .c)
  | .anaD => .alu .ana (.reg .d)
  | .anaE => .alu .ana (.reg .e)
  | .anaH => .alu .ana (.reg .h)
  | .anaL => .alu .ana (.reg .l)
  | .anaM => .alu .ana .m
  | .anaA => .alu .ana (.reg .a)
  | .xraB => .alu .xra (.reg .b)
  | .xraC => .alu .xra (.reg .c)
  | .xraD => .alu .xra (.reg .d)
  | .xraE => .alu .xra (.reg .e)
  | .xraH => .alu .xra (.reg .h)
  | .xraL => .alu .xra (.reg .l)
  | .xraM => .alu .xra .m
  | .xraA => .alu .xra (.reg .a)
  | .oraB => .alu .ora (.reg .b)
  | .oraC => .alu .ora (.reg .c)
  | .oraD => .alu .ora (.reg .d)
  | .oraE => .alu .ora (.reg .e)
  | .oraH => .alu .ora (.reg .h)
  | .oraL => .alu .ora (.reg .l)
  | .oraM => .alu .ora .m
  | .oraA => .alu .ora (.reg .a)
  | .cmpB => .alu .cmp (.reg .b)
  | .cmpC => .alu .cmp (.reg .c)
  | .cmpD => .alu .cmp (.reg .d)
  | .cmpE => .alu .cmp (.reg .e)
  | .cmpH => .alu .cmp (.reg .h)
  | .cmpL => .alu .cmp (.reg .l)
  | .cmpM => .alu .cmp .m
  | .cmpA => .alu .cmp (.reg .a)
  | .undefC0 => .fallback
  | .undefC1 => .fallback
  | .undefC2 => .fallback
  | .jmp a16 => .jmp a16
  | .undefC4 => .fallback
  | .undefC5 => .fallback
  | .adi d8 => .alu .add (.imm d8)
  | .undefC7 => .fallback
  | .undefC8 => .fallback
  | .undefC9 => .fallback
  | .undefCA => .fallback
  | .undefCB => .fallback
  | .undefCC => .fallback
  | .undefCD => .fallback
  | .aci d8 => .alu .adc (.imm d8)
  | .undefCF => .fallback
  | .undefD0 => .fallback
  | .undefD1 => .fallback
  | .undefD2 => .fallback
  | .undefD3 => .fallback
  | .undefD4 => .fallback
  | .undefD5 => .fallback
  | .sui d8 => .alu .sub (.imm d8)
  | .undefD7 => .fallback
  | .undefD8 => .fallback
  | .undefD9 => .fallback
  | .undefDA => .fallback
  | .undefDB => .fallback
  | .undefDC => .fallback
  | .undefDD => .fallback
  | .sbi d8 => .alu .sbb (.imm d8)
  | .undefDF => .fallback
  | .undefE0 => .fallback
  | .undefE1 => .fallback
  | .undefE2 => .fallback
  | .undefE3 => .fallback
  | .undefE4 => .fallback
  | .undefE5 => .fallback
  | .ani d8 => .alu .ana (.imm d8)
  | .undefE7 => .fallback
  | .undefE8 => .fallback
  | .undefE9 => .fallback
  | .undefEA => .fallback
  | .xchg => .xchg
  | .undefEC => .fallback
  | .undefED => .fallback
  | .xri d8 => .alu .xra (.imm d8)
  | .undefEF => .fallback
  | .undefF0 => .fallback
  | .undefF1 => .fallback
  | .undefF2 => .fallback
  | .undefF3 => .fallback
  | .undefF4 => .fallback
  | .undefF5 => .fallback
  | .ori d8 => .alu .ora (.imm d8)
  | .undefF7 => .fallback
  | .undefF8 => .fallback
  | .undefF9 => .fallback
  | .undefFA => .fallback
  | .undefFB => .fallback
  | .undefFC => .fallback
  | .undefFD => .fallback
  | .cpi d8 => .alu .cmp (.imm d8)
  | .undefFF => .fallback

/-- What every instruction does: its handler's effect, then PC and the cost. -/
theorem exec_handler (i : Instr) (s : State) :
    exec i s = .next (finishAt i.opcode ((handlerOf i).nextPc i.opcode s) ((handlerOf i).effect s)) := by
  cases i <;> rfl

/-- One state follows: `exec` never faults and never refuses, and its next state is the handler's. -/
theorem exec_next {i : Instr} {s t : State} (h : exec i s = .next t) :
    t = finishAt i.opcode ((handlerOf i).nextPc i.opcode s) ((handlerOf i).effect s) := by
  rw [exec_handler] at h
  injection h with h
  exact h.symm

theorem handlerOf_nextPc {i : Instr} (s : State) (hi : ∀ a16, i ≠ .jmp a16) :
    (handlerOf i).nextPc i.opcode s = s.pc + BitVec.ofNat 16 (lenOf i.opcode) := by
  cases i <;> first | rfl | exact absurd rfl (hi _)

/-- What no handler writes: SP, r[6], B, C and flag bits 1, 3 and 5; and UD is never cleared. -/
theorem Handler.effect_inert (h : Handler) (s : State) :
    (h.effect s).sp = s.sp ∧ (h.effect s).regs.cell6 = s.regs.cell6 ∧ (h.effect s).regs.b = s.regs.b ∧
      (h.effect s).regs.c = s.regs.c ∧ (h.effect s).f &&& 0x2A#8 = s.f &&& 0x2A#8 ∧
      (s.ud = true → (h.effect s).ud = true) := by
  cases h with
  | alu k src =>
    cases k <;> simp [Handler.effect, AluKind.apply, addAcc, adcAcc, subAcc, sbbAcc, anaAcc, xraAcc, oraAcc, cmpAcc,
      assignAlu_unused]
  | _ => simp [Handler.effect, adjustWith, assignCarry_unused, assignAlu_unused]

/-- The event: only the fallback writes UD and the outputs. -/
theorem Handler.effect_event (h : Handler) (s : State) :
    (h.effect s).out.fetched = s.out.fetched ∧ (h.effect s).out.undef = (s.out.undef || decide (h = .fallback)) ∧
      (h.effect s).ud = (s.ud || decide (h = .fallback)) := by
  cases h with
  | alu k src =>
    cases k <;> simp [Handler.effect, AluKind.apply, addAcc, adcAcc, subAcc, sbbAcc, anaAcc, xraAcc, oraAcc, cmpAcc]
  | _ => simp [Handler.effect, adjustWith]

/-- Every handler keeps memory canonical. -/
theorem Handler.effect_wf (h : Handler) (s : State) (hw : s.mem.wf = true) : (h.effect s).mem.wf = true := by
  cases h with
  | alu k src =>
    cases k <;> simpa [Handler.effect, AluKind.apply, addAcc, adcAcc, subAcc, sbbAcc, anaAcc, xraAcc, oraAcc, cmpAcc] using hw
  | shld a16 => exact State.write2_wf _ _ hw
  | _ => simp [Handler.effect, adjustWith, hw, Memory.write_wf]

/-- A handler reads neither cnt nor the outputs: they pass through. -/
theorem Handler.nextPc_congr (h : Handler) (op : Byte) {s t : State} (hpc : t.pc = s.pc) :
    h.nextPc op t = h.nextPc op s := by
  cases h <;> simp [Handler.nextPc, hpc]

/-- The handler is the fallback exactly for the bytes with no handler of their own (30_encoding.md R51). -/
theorem handlerOf_fallback (i : Instr) : handlerOf i = .fallback ↔ i.catalogued = false := by
  cases i <;> simp [handlerOf, Instr.catalogued, Instr.opcode] <;> decide

end Sys2Proof.Machine
end

