-- ==== Sys2Proof/Laws/PerInstr.lean ====
section
/-! SUPPORT. One lemma per constructor of Instr: the bytes the encoder gives an instruction are exactly one whole instruction
(30_encoding.md R45, R52: LEN[op] bytes, the opcode first). -/

namespace Sys2Proof.Laws.EncodesWhole

open Sys2Proof

/-- The encoding of `i` is a well-formed byte string: LEN[op] bytes. -/
def Statement (i : Instr) : Prop := wellFormedBytes (encode i) = true

/-- An instruction encodes whole when its operand bytes and its opcode's LEN agree. -/
theorem of_length {i : Instr} (op : Byte) (n : Nat) (hop : i.opcode = op) (hlen : i.operandBytes.length + 1 = n)
    (htable : Machine.lenOf op = n) : Statement i := by
  simp [Statement, wellFormedBytes, encode, hop, hlen, htable]

theorem undef00 : Statement .undef00 := of_length 0x00 1 rfl rfl rfl

theorem undef01 : Statement .undef01 := of_length 0x01 1 rfl rfl rfl

theorem undef02 : Statement .undef02 := of_length 0x02 1 rfl rfl rfl

theorem undef03 : Statement .undef03 := of_length 0x03 1 rfl rfl rfl

theorem undef04 : Statement .undef04 := of_length 0x04 1 rfl rfl rfl

theorem undef05 : Statement .undef05 := of_length 0x05 1 rfl rfl rfl

theorem undef06 : Statement .undef06 := of_length 0x06 1 rfl rfl rfl

theorem rlc : Statement .rlc := of_length 0x07 1 rfl rfl rfl

theorem undef08 : Statement .undef08 := of_length 0x08 1 rfl rfl rfl

theorem undef09 : Statement .undef09 := of_length 0x09 1 rfl rfl rfl

theorem undef0A : Statement .undef0A := of_length 0x0A 1 rfl rfl rfl

theorem undef0B : Statement .undef0B := of_length 0x0B 1 rfl rfl rfl

theorem undef0C : Statement .undef0C := of_length 0x0C 1 rfl rfl rfl

theorem undef0D : Statement .undef0D := of_length 0x0D 1 rfl rfl rfl

theorem undef0E : Statement .undef0E := of_length 0x0E 1 rfl rfl rfl

theorem rrc : Statement .rrc := of_length 0x0F 1 rfl rfl rfl

theorem undef10 : Statement .undef10 := of_length 0x10 1 rfl rfl rfl

theorem undef11 : Statement .undef11 := of_length 0x11 1 rfl rfl rfl

theorem undef12 : Statement .undef12 := of_length 0x12 1 rfl rfl rfl

theorem undef13 : Statement .undef13 := of_length 0x13 1 rfl rfl rfl

theorem undef14 : Statement .undef14 := of_length 0x14 1 rfl rfl rfl

theorem undef15 : Statement .undef15 := of_length 0x15 1 rfl rfl rfl

theorem undef16 : Statement .undef16 := of_length 0x16 1 rfl rfl rfl

theorem ral : Statement .ral := of_length 0x17 1 rfl rfl rfl

theorem undef18 : Statement .undef18 := of_length 0x18 1 rfl rfl rfl

theorem undef19 : Statement .undef19 := of_length 0x19 1 rfl rfl rfl

theorem undef1A : Statement .undef1A := of_length 0x1A 1 rfl rfl rfl

theorem undef1B : Statement .undef1B := of_length 0x1B 1 rfl rfl rfl

theorem undef1C : Statement .undef1C := of_length 0x1C 1 rfl rfl rfl

theorem undef1D : Statement .undef1D := of_length 0x1D 1 rfl rfl rfl

theorem undef1E : Statement .undef1E := of_length 0x1E 1 rfl rfl rfl

theorem rar : Statement .rar := of_length 0x1F 1 rfl rfl rfl

theorem undef20 : Statement .undef20 := of_length 0x20 1 rfl rfl rfl

theorem undef21 : Statement .undef21 := of_length 0x21 1 rfl rfl rfl

theorem shld (a16 : Word) : Statement (.shld a16) := of_length 0x22 3 rfl rfl rfl

theorem undef23 : Statement .undef23 := of_length 0x23 1 rfl rfl rfl

theorem undef24 : Statement .undef24 := of_length 0x24 1 rfl rfl rfl

theorem undef25 : Statement .undef25 := of_length 0x25 1 rfl rfl rfl

theorem undef26 : Statement .undef26 := of_length 0x26 1 rfl rfl rfl

theorem daa : Statement .daa := of_length 0x27 1 rfl rfl rfl

theorem undef28 : Statement .undef28 := of_length 0x28 1 rfl rfl rfl

theorem undef29 : Statement .undef29 := of_length 0x29 1 rfl rfl rfl

theorem lhld (a16 : Word) : Statement (.lhld a16) := of_length 0x2A 3 rfl rfl rfl

theorem undef2B : Statement .undef2B := of_length 0x2B 1 rfl rfl rfl

theorem undef2C : Statement .undef2C := of_length 0x2C 1 rfl rfl rfl

theorem undef2D : Statement .undef2D := of_length 0x2D 1 rfl rfl rfl

theorem undef2E : Statement .undef2E := of_length 0x2E 1 rfl rfl rfl

theorem cma : Statement .cma := of_length 0x2F 1 rfl rfl rfl

theorem undef30 : Statement .undef30 := of_length 0x30 1 rfl rfl rfl

theorem undef31 : Statement .undef31 := of_length 0x31 1 rfl rfl rfl

theorem sta (a16 : Word) : Statement (.sta a16) := of_length 0x32 3 rfl rfl rfl

theorem undef33 : Statement .undef33 := of_length 0x33 1 rfl rfl rfl

theorem undef34 : Statement .undef34 := of_length 0x34 1 rfl rfl rfl

theorem undef35 : Statement .undef35 := of_length 0x35 1 rfl rfl rfl

theorem mviM (d8 : Byte) : Statement (.mviM d8) := of_length 0x36 2 rfl rfl rfl

theorem stc : Statement .stc := of_length 0x37 1 rfl rfl rfl

theorem undef38 : Statement .undef38 := of_length 0x38 1 rfl rfl rfl

theorem undef39 : Statement .undef39 := of_length 0x39 1 rfl rfl rfl

theorem lda (a16 : Word) : Statement (.lda a16) := of_length 0x3A 3 rfl rfl rfl

theorem undef3B : Statement .undef3B := of_length 0x3B 1 rfl rfl rfl

theorem undef3C : Statement .undef3C := of_length 0x3C 1 rfl rfl rfl

theorem undef3D : Statement .undef3D := of_length 0x3D 1 rfl rfl rfl

theorem undef3E : Statement .undef3E := of_length 0x3E 1 rfl rfl rfl

theorem cmc : Statement .cmc := of_length 0x3F 1 rfl rfl rfl

theorem undef40 : Statement .undef40 := of_length 0x40 1 rfl rfl rfl

theorem undef41 : Statement .undef41 := of_length 0x41 1 rfl rfl rfl

theorem undef42 : Statement .undef42 := of_length 0x42 1 rfl rfl rfl

theorem undef43 : Statement .undef43 := of_length 0x43 1 rfl rfl rfl

theorem undef44 : Statement .undef44 := of_length 0x44 1 rfl rfl rfl

theorem undef45 : Statement .undef45 := of_length 0x45 1 rfl rfl rfl

theorem undef46 : Statement .undef46 := of_length 0x46 1 rfl rfl rfl

theorem undef47 : Statement .undef47 := of_length 0x47 1 rfl rfl rfl

theorem undef48 : Statement .undef48 := of_length 0x48 1 rfl rfl rfl

theorem undef49 : Statement .undef49 := of_length 0x49 1 rfl rfl rfl

theorem undef4A : Statement .undef4A := of_length 0x4A 1 rfl rfl rfl

theorem undef4B : Statement .undef4B := of_length 0x4B 1 rfl rfl rfl

theorem undef4C : Statement .undef4C := of_length 0x4C 1 rfl rfl rfl

theorem undef4D : Statement .undef4D := of_length 0x4D 1 rfl rfl rfl

theorem undef4E : Statement .undef4E := of_length 0x4E 1 rfl rfl rfl

theorem undef4F : Statement .undef4F := of_length 0x4F 1 rfl rfl rfl

theorem undef50 : Statement .undef50 := of_length 0x50 1 rfl rfl rfl

theorem undef51 : Statement .undef51 := of_length 0x51 1 rfl rfl rfl

theorem undef52 : Statement .undef52 := of_length 0x52 1 rfl rfl rfl

theorem undef53 : Statement .undef53 := of_length 0x53 1 rfl rfl rfl

theorem undef54 : Statement .undef54 := of_length 0x54 1 rfl rfl rfl

theorem undef55 : Statement .undef55 := of_length 0x55 1 rfl rfl rfl

theorem undef56 : Statement .undef56 := of_length 0x56 1 rfl rfl rfl

theorem undef57 : Statement .undef57 := of_length 0x57 1 rfl rfl rfl

theorem undef58 : Statement .undef58 := of_length 0x58 1 rfl rfl rfl

theorem undef59 : Statement .undef59 := of_length 0x59 1 rfl rfl rfl

theorem undef5A : Statement .undef5A := of_length 0x5A 1 rfl rfl rfl

theorem undef5B : Statement .undef5B := of_length 0x5B 1 rfl rfl rfl

theorem undef5C : Statement .undef5C := of_length 0x5C 1 rfl rfl rfl

theorem undef5D : Statement .undef5D := of_length 0x5D 1 rfl rfl rfl

theorem undef5E : Statement .undef5E := of_length 0x5E 1 rfl rfl rfl

theorem undef5F : Statement .undef5F := of_length 0x5F 1 rfl rfl rfl

theorem undef60 : Statement .undef60 := of_length 0x60 1 rfl rfl rfl

theorem undef61 : Statement .undef61 := of_length 0x61 1 rfl rfl rfl

theorem undef62 : Statement .undef62 := of_length 0x62 1 rfl rfl rfl

theorem undef63 : Statement .undef63 := of_length 0x63 1 rfl rfl rfl

theorem undef64 : Statement .undef64 := of_length 0x64 1 rfl rfl rfl

theorem undef65 : Statement .undef65 := of_length 0x65 1 rfl rfl rfl

theorem undef66 : Statement .undef66 := of_length 0x66 1 rfl rfl rfl

theorem undef67 : Statement .undef67 := of_length 0x67 1 rfl rfl rfl

theorem undef68 : Statement .undef68 := of_length 0x68 1 rfl rfl rfl

theorem undef69 : Statement .undef69 := of_length 0x69 1 rfl rfl rfl

theorem undef6A : Statement .undef6A := of_length 0x6A 1 rfl rfl rfl

theorem undef6B : Statement .undef6B := of_length 0x6B 1 rfl rfl rfl

theorem undef6C : Statement .undef6C := of_length 0x6C 1 rfl rfl rfl

theorem undef6D : Statement .undef6D := of_length 0x6D 1 rfl rfl rfl

theorem undef6E : Statement .undef6E := of_length 0x6E 1 rfl rfl rfl

theorem undef6F : Statement .undef6F := of_length 0x6F 1 rfl rfl rfl

theorem undef70 : Statement .undef70 := of_length 0x70 1 rfl rfl rfl

theorem undef71 : Statement .undef71 := of_length 0x71 1 rfl rfl rfl

theorem undef72 : Statement .undef72 := of_length 0x72 1 rfl rfl rfl

theorem undef73 : Statement .undef73 := of_length 0x73 1 rfl rfl rfl

theorem undef74 : Statement .undef74 := of_length 0x74 1 rfl rfl rfl

theorem undef75 : Statement .undef75 := of_length 0x75 1 rfl rfl rfl

theorem undef76 : Statement .undef76 := of_length 0x76 1 rfl rfl rfl

theorem undef77 : Statement .undef77 := of_length 0x77 1 rfl rfl rfl

theorem undef78 : Statement .undef78 := of_length 0x78 1 rfl rfl rfl

theorem undef79 : Statement .undef79 := of_length 0x79 1 rfl rfl rfl

theorem undef7A : Statement .undef7A := of_length 0x7A 1 rfl rfl rfl

theorem undef7B : Statement .undef7B := of_length 0x7B 1 rfl rfl rfl

theorem undef7C : Statement .undef7C := of_length 0x7C 1 rfl rfl rfl

theorem undef7D : Statement .undef7D := of_length 0x7D 1 rfl rfl rfl

theorem undef7E : Statement .undef7E := of_length 0x7E 1 rfl rfl rfl

theorem undef7F : Statement .undef7F := of_length 0x7F 1 rfl rfl rfl

theorem addB : Statement .addB := of_length 0x80 1 rfl rfl rfl

theorem addC : Statement .addC := of_length 0x81 1 rfl rfl rfl

theorem addD : Statement .addD := of_length 0x82 1 rfl rfl rfl

theorem addE : Statement .addE := of_length 0x83 1 rfl rfl rfl

theorem addH : Statement .addH := of_length 0x84 1 rfl rfl rfl

theorem addL : Statement .addL := of_length 0x85 1 rfl rfl rfl

theorem addM : Statement .addM := of_length 0x86 1 rfl rfl rfl

theorem addA : Statement .addA := of_length 0x87 1 rfl rfl rfl

theorem adcB : Statement .adcB := of_length 0x88 1 rfl rfl rfl

theorem adcC : Statement .adcC := of_length 0x89 1 rfl rfl rfl

theorem adcD : Statement .adcD := of_length 0x8A 1 rfl rfl rfl

theorem adcE : Statement .adcE := of_length 0x8B 1 rfl rfl rfl

theorem adcH : Statement .adcH := of_length 0x8C 1 rfl rfl rfl

theorem adcL : Statement .adcL := of_length 0x8D 1 rfl rfl rfl

theorem adcM : Statement .adcM := of_length 0x8E 1 rfl rfl rfl

theorem adcA : Statement .adcA := of_length 0x8F 1 rfl rfl rfl

theorem subB : Statement .subB := of_length 0x90 1 rfl rfl rfl

theorem subC : Statement .subC := of_length 0x91 1 rfl rfl rfl

theorem subD : Statement .subD := of_length 0x92 1 rfl rfl rfl

theorem subE : Statement .subE := of_length 0x93 1 rfl rfl rfl

theorem subH : Statement .subH := of_length 0x94 1 rfl rfl rfl

theorem subL : Statement .subL := of_length 0x95 1 rfl rfl rfl

theorem subM : Statement .subM := of_length 0x96 1 rfl rfl rfl

theorem subA : Statement .subA := of_length 0x97 1 rfl rfl rfl

theorem sbbB : Statement .sbbB := of_length 0x98 1 rfl rfl rfl

theorem sbbC : Statement .sbbC := of_length 0x99 1 rfl rfl rfl

theorem sbbD : Statement .sbbD := of_length 0x9A 1 rfl rfl rfl

theorem sbbE : Statement .sbbE := of_length 0x9B 1 rfl rfl rfl

theorem sbbH : Statement .sbbH := of_length 0x9C 1 rfl rfl rfl

theorem sbbL : Statement .sbbL := of_length 0x9D 1 rfl rfl rfl

theorem sbbM : Statement .sbbM := of_length 0x9E 1 rfl rfl rfl

theorem sbbA : Statement .sbbA := of_length 0x9F 1 rfl rfl rfl

theorem anaB : Statement .anaB := of_length 0xA0 1 rfl rfl rfl

theorem anaC : Statement .anaC := of_length 0xA1 1 rfl rfl rfl

theorem anaD : Statement .anaD := of_length 0xA2 1 rfl rfl rfl

theorem anaE : Statement .anaE := of_length 0xA3 1 rfl rfl rfl

theorem anaH : Statement .anaH := of_length 0xA4 1 rfl rfl rfl

theorem anaL : Statement .anaL := of_length 0xA5 1 rfl rfl rfl

theorem anaM : Statement .anaM := of_length 0xA6 1 rfl rfl rfl

theorem anaA : Statement .anaA := of_length 0xA7 1 rfl rfl rfl

theorem xraB : Statement .xraB := of_length 0xA8 1 rfl rfl rfl

theorem xraC : Statement .xraC := of_length 0xA9 1 rfl rfl rfl

theorem xraD : Statement .xraD := of_length 0xAA 1 rfl rfl rfl

theorem xraE : Statement .xraE := of_length 0xAB 1 rfl rfl rfl

theorem xraH : Statement .xraH := of_length 0xAC 1 rfl rfl rfl

theorem xraL : Statement .xraL := of_length 0xAD 1 rfl rfl rfl

theorem xraM : Statement .xraM := of_length 0xAE 1 rfl rfl rfl

theorem xraA : Statement .xraA := of_length 0xAF 1 rfl rfl rfl

theorem oraB : Statement .oraB := of_length 0xB0 1 rfl rfl rfl

theorem oraC : Statement .oraC := of_length 0xB1 1 rfl rfl rfl

theorem oraD : Statement .oraD := of_length 0xB2 1 rfl rfl rfl

theorem oraE : Statement .oraE := of_length 0xB3 1 rfl rfl rfl

theorem oraH : Statement .oraH := of_length 0xB4 1 rfl rfl rfl

theorem oraL : Statement .oraL := of_length 0xB5 1 rfl rfl rfl

theorem oraM : Statement .oraM := of_length 0xB6 1 rfl rfl rfl

theorem oraA : Statement .oraA := of_length 0xB7 1 rfl rfl rfl

theorem cmpB : Statement .cmpB := of_length 0xB8 1 rfl rfl rfl

theorem cmpC : Statement .cmpC := of_length 0xB9 1 rfl rfl rfl

theorem cmpD : Statement .cmpD := of_length 0xBA 1 rfl rfl rfl

theorem cmpE : Statement .cmpE := of_length 0xBB 1 rfl rfl rfl

theorem cmpH : Statement .cmpH := of_length 0xBC 1 rfl rfl rfl

theorem cmpL : Statement .cmpL := of_length 0xBD 1 rfl rfl rfl

theorem cmpM : Statement .cmpM := of_length 0xBE 1 rfl rfl rfl

theorem cmpA : Statement .cmpA := of_length 0xBF 1 rfl rfl rfl

theorem undefC0 : Statement .undefC0 := of_length 0xC0 1 rfl rfl rfl

theorem undefC1 : Statement .undefC1 := of_length 0xC1 1 rfl rfl rfl

theorem undefC2 : Statement .undefC2 := of_length 0xC2 1 rfl rfl rfl

theorem jmp (a16 : Word) : Statement (.jmp a16) := of_length 0xC3 3 rfl rfl rfl

theorem undefC4 : Statement .undefC4 := of_length 0xC4 1 rfl rfl rfl

theorem undefC5 : Statement .undefC5 := of_length 0xC5 1 rfl rfl rfl

theorem adi (d8 : Byte) : Statement (.adi d8) := of_length 0xC6 2 rfl rfl rfl

theorem undefC7 : Statement .undefC7 := of_length 0xC7 1 rfl rfl rfl

theorem undefC8 : Statement .undefC8 := of_length 0xC8 1 rfl rfl rfl

theorem undefC9 : Statement .undefC9 := of_length 0xC9 1 rfl rfl rfl

theorem undefCA : Statement .undefCA := of_length 0xCA 1 rfl rfl rfl

theorem undefCB : Statement .undefCB := of_length 0xCB 1 rfl rfl rfl

theorem undefCC : Statement .undefCC := of_length 0xCC 1 rfl rfl rfl

theorem undefCD : Statement .undefCD := of_length 0xCD 1 rfl rfl rfl

theorem aci (d8 : Byte) : Statement (.aci d8) := of_length 0xCE 2 rfl rfl rfl

theorem undefCF : Statement .undefCF := of_length 0xCF 1 rfl rfl rfl

theorem undefD0 : Statement .undefD0 := of_length 0xD0 1 rfl rfl rfl

theorem undefD1 : Statement .undefD1 := of_length 0xD1 1 rfl rfl rfl

theorem undefD2 : Statement .undefD2 := of_length 0xD2 1 rfl rfl rfl

theorem undefD3 : Statement .undefD3 := of_length 0xD3 1 rfl rfl rfl

theorem undefD4 : Statement .undefD4 := of_length 0xD4 1 rfl rfl rfl

theorem undefD5 : Statement .undefD5 := of_length 0xD5 1 rfl rfl rfl

theorem sui (d8 : Byte) : Statement (.sui d8) := of_length 0xD6 2 rfl rfl rfl

theorem undefD7 : Statement .undefD7 := of_length 0xD7 1 rfl rfl rfl

theorem undefD8 : Statement .undefD8 := of_length 0xD8 1 rfl rfl rfl

theorem undefD9 : Statement .undefD9 := of_length 0xD9 1 rfl rfl rfl

theorem undefDA : Statement .undefDA := of_length 0xDA 1 rfl rfl rfl

theorem undefDB : Statement .undefDB := of_length 0xDB 1 rfl rfl rfl

theorem undefDC : Statement .undefDC := of_length 0xDC 1 rfl rfl rfl

theorem undefDD : Statement .undefDD := of_length 0xDD 1 rfl rfl rfl

theorem sbi (d8 : Byte) : Statement (.sbi d8) := of_length 0xDE 2 rfl rfl rfl

theorem undefDF : Statement .undefDF := of_length 0xDF 1 rfl rfl rfl

theorem undefE0 : Statement .undefE0 := of_length 0xE0 1 rfl rfl rfl

theorem undefE1 : Statement .undefE1 := of_length 0xE1 1 rfl rfl rfl

theorem undefE2 : Statement .undefE2 := of_length 0xE2 1 rfl rfl rfl

theorem undefE3 : Statement .undefE3 := of_length 0xE3 1 rfl rfl rfl

theorem undefE4 : Statement .undefE4 := of_length 0xE4 1 rfl rfl rfl

theorem undefE5 : Statement .undefE5 := of_length 0xE5 1 rfl rfl rfl

theorem ani (d8 : Byte) : Statement (.ani d8) := of_length 0xE6 2 rfl rfl rfl

theorem undefE7 : Statement .undefE7 := of_length 0xE7 1 rfl rfl rfl

theorem undefE8 : Statement .undefE8 := of_length 0xE8 1 rfl rfl rfl

theorem undefE9 : Statement .undefE9 := of_length 0xE9 1 rfl rfl rfl

theorem undefEA : Statement .undefEA := of_length 0xEA 1 rfl rfl rfl

theorem xchg : Statement .xchg := of_length 0xEB 1 rfl rfl rfl

theorem undefEC : Statement .undefEC := of_length 0xEC 1 rfl rfl rfl

theorem undefED : Statement .undefED := of_length 0xED 1 rfl rfl rfl

theorem xri (d8 : Byte) : Statement (.xri d8) := of_length 0xEE 2 rfl rfl rfl

theorem undefEF : Statement .undefEF := of_length 0xEF 1 rfl rfl rfl

theorem undefF0 : Statement .undefF0 := of_length 0xF0 1 rfl rfl rfl

theorem undefF1 : Statement .undefF1 := of_length 0xF1 1 rfl rfl rfl

theorem undefF2 : Statement .undefF2 := of_length 0xF2 1 rfl rfl rfl

theorem undefF3 : Statement .undefF3 := of_length 0xF3 1 rfl rfl rfl

theorem undefF4 : Statement .undefF4 := of_length 0xF4 1 rfl rfl rfl

theorem undefF5 : Statement .undefF5 := of_length 0xF5 1 rfl rfl rfl

theorem ori (d8 : Byte) : Statement (.ori d8) := of_length 0xF6 2 rfl rfl rfl

theorem undefF7 : Statement .undefF7 := of_length 0xF7 1 rfl rfl rfl

theorem undefF8 : Statement .undefF8 := of_length 0xF8 1 rfl rfl rfl

theorem undefF9 : Statement .undefF9 := of_length 0xF9 1 rfl rfl rfl

theorem undefFA : Statement .undefFA := of_length 0xFA 1 rfl rfl rfl

theorem undefFB : Statement .undefFB := of_length 0xFB 1 rfl rfl rfl

theorem undefFC : Statement .undefFC := of_length 0xFC 1 rfl rfl rfl

theorem undefFD : Statement .undefFD := of_length 0xFD 1 rfl rfl rfl

theorem cpi (d8 : Byte) : Statement (.cpi d8) := of_length 0xFE 2 rfl rfl rfl

theorem undefFF : Statement .undefFF := of_length 0xFF 1 rfl rfl rfl

end Sys2Proof.Laws.EncodesWhole
end

