-- ==== Sys2Proof/Laws/Step.lean ====
section
/-! SUPPORT. Once for the step: a busy tick, a fetch tick, and nothing else (49_step_scheduler.md R143). -/

namespace Sys2Proof.Machine

open Sys2Proof.Safety

theorem step_of_busy {s : State} (h : 1 < s.cnt) : step s = .next (countDown s) := by
  unfold step
  rw [if_pos]
  simp
  omega

theorem step_of_ready {s : State} (h : s.cnt ≤ 1) : step s = exec (fetch s) (beginFetch (countDown s)) := by
  unfold step
  rw [if_neg]
  simp
  omega

/-- Everything a tick can do. -/
theorem step_cases {s t : State} (h : step s = .next t) :
    (1 < s.cnt ∧ t = countDown s) ∨
      (s.cnt ≤ 1 ∧ t = finishAt (fetch s).opcode ((handlerOf (fetch s)).nextPc (fetch s).opcode s)
        ((handlerOf (fetch s)).effect (beginFetch (countDown s)))) := by
  by_cases hc : s.cnt ≤ 1
  · right
    rw [step_of_ready hc] at h
    refine ⟨hc, (exec_next h).trans ?_⟩
    rw [Handler.nextPc_congr (s := s) (t := beginFetch (countDown s)) _ _ rfl]
  · left
    rw [step_of_busy (by omega)] at h
    injection h with h
    exact ⟨by omega, h.symm⟩

theorem ticks_zero (s : State) : ticks 0 s = .next s := rfl

/-- The first of `k + 1` ticks, then the rest. -/
theorem ticks_succ {s t : State} (k : Nat) (h : step s = .next t) : ticks (k + 1) s = ticks k t := by
  have h' : core.step s = .next t := h
  simp only [ticks, Host.Core.run, h']
  rfl

/-- `k` ticks and then `n` more. -/
theorem ticks_add {s t : State} (k n : Nat) (h : ticks k s = .next t) : ticks (k + n) s = ticks n t := by
  induction k generalizing s with
  | zero => injection h with h; rw [Nat.zero_add]; exact congrArg _ h
  | succ k ih =>
    cases hs : step s with
    | next u =>
      rw [ticks_succ k hs] at h
      rw [Nat.succ_add, ticks_succ _ hs]
      exact ih h
    | fault r =>
      have hs' : core.step s = .fault r := hs
      simp only [ticks, Host.Core.run, hs'] at h
      injection h
    | refused r =>
      have hs' : core.step s = .refused r := hs
      simp only [ticks, Host.Core.run, hs'] at h
      injection h

/-- `k + 1` ticks from `s`, all busy while cnt stays above 1. -/
theorem ticks_busy (k : Nat) (s : State) (h : (k : Int) + 1 < s.cnt) :
    ticks (k + 1) s = .next { s with cnt := s.cnt - (k + 1), out := { fetched := false, undef := false } } := by
  induction k generalizing s with
  | zero => rw [ticks_succ 0 (step_of_busy (by omega))]; rfl
  | succ k ih =>
    rw [ticks_succ (k + 1) (step_of_busy (by omega)), ih _ (by simp; omega)]
    simp only [countDown]
    congr 2
    omega

end Sys2Proof.Machine
end

