-- ==== Sys2Proof/Laws/Tables.lean ====
section
/-! SUPPORT. The opcode tables entry by entry: their ranges, and that the decoder's table and the encoder's agree. -/

namespace Sys2Proof.Machine

/-- LEN is 1, 2 or 3 (30_encoding.md R45). -/
theorem lenOf_range : ∀ op : Byte, 1 ≤ lenOf op ∧ lenOf op ≤ 3 := by decide

/-- CYCLES is at least 4 and at most 16 (49_step_scheduler.md R147). -/
theorem cyclesOf_range : ∀ op : Byte, 4 ≤ cyclesOf op ∧ cyclesOf op ≤ 16 := by decide

/-- UNDEF_LEN and UNDEF_CYCLES (48_undefined_opcode.md R138). -/
theorem fallback_len_cycles : ∀ op : Byte, hasHandler op = false → lenOf op = 1 ∧ cyclesOf op = 4 := by decide

/-- A property of every byte from its 256 instances. -/
theorem byte_cases {P : Byte → Prop} (h : ∀ n : Fin 256, P (BitVec.ofFin n)) : ∀ b, P b := fun b => h b.toFin

/-- The entry of the opcode map at `op` has opcode `op`. -/
theorem opcodeMap_opcode (d8 : Byte) (a16 : Word) :
    ∀ op : Byte, (tableAt (opcodeMap d8 a16) op .undef00).opcode = op := by
  apply byte_cases
  intro n
  fin_cases n <;> rfl

/-- The decoder keeps the opcode byte. -/
theorem opcode_decodeBytes (op b2 b3 : Byte) : (decodeBytes op b2 b3).opcode = op := opcodeMap_opcode _ _ op

/-- LEN counts the opcode and the operand bytes the encoder gives. -/
theorem lenOf_opcode (i : Instr) : lenOf i.opcode = i.operandBytes.length + 1 := by
  cases i <;> simp only [Instr.opcode, Instr.operandBytes] <;> rfl

end Sys2Proof.Machine
end

