-- ==== Sys2Proof/Tests/Slice0.lean ====
section
/-! SUPPORT. The model's own tests: well-formedness, decoding by words written out from the spec's encodings, one fetch tick
per row of spec/95_test_vectors.md, and a witness for the hypotheses of each statement. Every expected value is taken from
the spec's tables or worked out by hand from its rules. -/

namespace Sys2Proof.Tests

open Sys2Proof.Machine Sys2Proof.Safety

/-- The registers not named by a vector. -/
def zeros : Regs := State.reset.regs

/-- A launch (10_state.md R26) with the given bytes from address 0 on. -/
def cpu (regs : Regs) (f : Byte) (bytes : List Byte) : State :=
  (bytes.zipIdx).foldl (fun s p => hostWrite (BitVec.ofNat 16 p.2) p.1 s)
    (launch { regs := regs, f := f, pc := 0x0000, sp := 0xBEEF, mem := [] })

/-- What one tick leaves, if it leaves a next state. -/
def tick (s : State) : Option State :=
  match step s with
  | .next t => some t
  | _ => none

/-- The state after one tick. -/
def after (s : State) : State := (tick s).getD s

/-- Accumulator, flag byte, PC and cnt after one tick. -/
def core4 (s : State) : Option (Byte × Byte × Word × Int) := (tick s).map fun t => (t.regs.a, t.f, t.pc, t.cnt)

/-! ## Well-formedness: one ill-formed byte string for each check, and a good one -/

theorem test_wf_refuses_empty : wellFormedBytes [] = false := by decide

theorem test_wf_refuses_truncated : wellFormedBytes [0xC6] = false ∧ wellFormedBytes [0x3A, 0x00] = false := by decide

theorem test_wf_refuses_leftover :
    wellFormedBytes [0xEB, 0x00] = false ∧ wellFormedBytes [0x36, 0x5A, 0x00] = false := by decide

theorem test_wf_accepts :
    wellFormedBytes [0xEB] = true ∧ wellFormedBytes [0x36, 0x5A] = true ∧ wellFormedBytes [0xC3, 0x34, 0x12] = true := by decide

theorem test_terms_are_well_formed : (Instr.aci 0xBE).wellFormed = true ∧ (Instr.undefFF).wellFormed = true := by decide

/-! ## Decoding: words written bit by bit from the encodings of the rules -/

/-- 10_ooo_sss of 30_encoding.md R46, R48, R85 to R91, with sss = 010 (D). -/
theorem test_decode_alu_r :
    decode [0b10_000_010] = .ok (.addD, []) ∧
    decode [0b10_001_010] = .ok (.adcD, []) ∧
    decode [0b10_010_010] = .ok (.subD, []) ∧
    decode [0b10_011_010] = .ok (.sbbD, []) ∧
    decode [0b10_100_010] = .ok (.anaD, []) ∧
    decode [0b10_101_010] = .ok (.xraD, []) ∧
    decode [0b10_110_010] = .ok (.oraD, []) ∧
    decode [0b10_111_010] = .ok (.cmpD, []) := by decide

/-- 10_ooo_110: operand code 6 is M (R48). -/
theorem test_decode_alu_m :
    decode [0b10_000_110] = .ok (.addM, []) ∧
    decode [0b10_011_110] = .ok (.sbbM, []) ∧
    decode [0b10_100_110] = .ok (.anaM, []) ∧
    decode [0b10_111_110] = .ok (.cmpM, []) := by decide

/-- The seven register codes of R48 in ADD: B, C, D, E, H, L, A. -/
theorem test_decode_operand_codes :
    decode [0b10_000_000] = .ok (.addB, []) ∧
    decode [0b10_000_001] = .ok (.addC, []) ∧
    decode [0b10_000_011] = .ok (.addE, []) ∧
    decode [0b10_000_100] = .ok (.addH, []) ∧
    decode [0b10_000_101] = .ok (.addL, []) ∧
    decode [0b10_000_111] = .ok (.addA, []) := by decide

/-- One-byte forms (R80, R97, R125 to R128, R130 to R132). -/
theorem test_decode_one_byte :
    decode [0b1110_1011] = .ok (.xchg, []) ∧
    decode [0b0010_0111] = .ok (.daa, []) ∧
    decode [0b0000_0111] = .ok (.rlc, []) ∧
    decode [0b0000_1111] = .ok (.rrc, []) ∧
    decode [0b0001_0111] = .ok (.ral, []) ∧
    decode [0b0001_1111] = .ok (.rar, []) ∧
    decode [0b0010_1111] = .ok (.cma, []) ∧
    decode [0b0011_1111] = .ok (.cmc, []) ∧
    decode [0b0011_0111] = .ok (.stc, []) := by decide

/-- Bytes without a handler: Intel NOP, MOV B,B, HLT, RET, CALL, RST 7 (R51). -/
theorem test_decode_fallback :
    decode [0b0000_0000] = .ok (.undef00, []) ∧
    decode [0b0100_0000] = .ok (.undef40, []) ∧
    decode [0b0111_0110] = .ok (.undef76, []) ∧
    decode [0b1100_1001] = .ok (.undefC9, []) ∧
    decode [0b1100_1101] = .ok (.undefCD, []) ∧
    decode [0b1111_1111] = .ok (.undefFF, []) := by decide

/-- 11_ooo_110 d8 of R46 and MVI M of R75. -/
theorem test_decode_alu_imm :
    decode [0b11_000_110, 0x5A] = .ok (.adi 0x5A, []) ∧
    decode [0b11_001_110, 0x5A] = .ok (.aci 0x5A, []) ∧
    decode [0b11_010_110, 0x5A] = .ok (.sui 0x5A, []) ∧
    decode [0b11_011_110, 0x5A] = .ok (.sbi 0x5A, []) ∧
    decode [0b11_100_110, 0x5A] = .ok (.ani 0x5A, []) ∧
    decode [0b11_101_110, 0x5A] = .ok (.xri 0x5A, []) ∧
    decode [0b11_110_110, 0x5A] = .ok (.ori 0x5A, []) ∧
    decode [0b11_111_110, 0x5A] = .ok (.cpi 0x5A, []) ∧
    decode [0b0011_0110, 0x5A] = .ok (.mviM 0x5A, []) := by decide

/-- Opcode, low byte, high byte of R45, R76 to R79 and R135. -/
theorem test_decode_direct :
    decode [0b0011_1010, 0x34, 0x12] = .ok (.lda 0x1234, []) ∧
    decode [0b0011_0010, 0x34, 0x12] = .ok (.sta 0x1234, []) ∧
    decode [0b0010_1010, 0x34, 0x12] = .ok (.lhld 0x1234, []) ∧
    decode [0b0010_0010, 0x34, 0x12] = .ok (.shld 0x1234, []) ∧
    decode [0b1100_0011, 0x34, 0x12] = .ok (.jmp 0x1234, []) := by decide

/-- A byte string that holds no whole instruction is rejected by name. -/
theorem test_decode_rejects :
    decode [] = .error .noBytes ∧ decode [0xC6] = .error (.missingOperand 0xC6 1 2) ∧
    decode [0x3A, 0x00] = .error (.missingOperand 0x3A 2 3) := by decide

/-- The word's bits 7 to 0 are the first byte; bits the table leaves out are 0. -/
theorem test_decode_table_word :
    decodeTableWord 24 0x1234C3 = some (.jmp 0x1234) ∧ decodeTableWord 16 0x05C6 = some (.adi 0x05) ∧
    decodeTableWord 8 0xC3 = some (.jmp 0x0000) ∧ decodeTableWord 8 0x76 = some .undef76 := by decide

/-- The placed instruction is the one the very next tick runs. -/
theorem test_place_word :
    (tick (State.reset.withFetchWord 24 0x1234C3)).map (·.pc) = some 0x1234 ∧
    (tick (State.reset.withFetchWord 8 0x37)).map (·.f) = some 0x03 := by decide

/-! ## Arithmetic (95_test_vectors.md 2.2) -/

/-- ADD B. -/
theorem test_add_b :
    core4 (cpu { zeros with a := 0x2E, b := 0x6C } 0x02 [0x80]) = some (0x9A, 0x96, 0x0001, 7) := by decide

/-- ADD B (carry out, zero). -/
theorem test_add_b_2 :
    core4 (cpu { zeros with a := 0xFF, b := 0x01 } 0x02 [0x80]) = some (0x00, 0x57, 0x0001, 7) := by decide

/-- ADD A (same register twice). -/
theorem test_add_a : core4 (cpu { zeros with a := 0x80 } 0x02 [0x87]) = some (0x00, 0x47, 0x0001, 7) := by decide

/-- ADD M. -/
theorem test_add_m :
    core4 (hostWrite 0x1234 0x01 (cpu { zeros with a := 0x0F, h := 0x12, l := 0x34 } 0x02 [0x86])) = some (0x10, 0x12, 0x0001, 7) := by decide

/-- ADC C (carry in 1). -/
theorem test_adc_c :
    core4 (cpu { zeros with a := 0x42, c := 0x3D } 0x03 [0x89]) = some (0x80, 0x92, 0x0001, 7) := by decide

/-- ADC C (carry in 0). -/
theorem test_adc_c_2 :
    core4 (cpu { zeros with a := 0x42, c := 0x3D } 0x02 [0x89]) = some (0x7F, 0x02, 0x0001, 7) := by decide

/-- ADC B (FF+FF+1). -/
theorem test_adc_b :
    core4 (cpu { zeros with a := 0xFF, b := 0xFF } 0x03 [0x88]) = some (0xFF, 0x97, 0x0001, 7) := by decide

/-- ADC B (AC from the carry-in alone). -/
theorem test_adc_b_2 :
    core4 (cpu { zeros with a := 0x0F, b := 0x00 } 0x03 [0x88]) = some (0x10, 0x12, 0x0001, 7) := by decide

/-- ADC M. -/
theorem test_adc_m :
    core4 (hostWrite 0x0010 0x00 (cpu { zeros with a := 0x7F, h := 0x00, l := 0x10 } 0x03 [0x8E])) = some (0x80, 0x92, 0x0001, 7) := by decide

/-- SUB A (clears A). -/
theorem test_sub_a : core4 (cpu { zeros with a := 0x3E } 0x02 [0x97]) = some (0x00, 0x46, 0x0001, 7) := by decide

/-- SUB B (borrow). -/
theorem test_sub_b :
    core4 (cpu { zeros with a := 0x00, b := 0x01 } 0x02 [0x90]) = some (0xFF, 0x97, 0x0001, 7) := by decide

/-- SUB B (half-borrow only). -/
theorem test_sub_b_2 :
    core4 (cpu { zeros with a := 0x10, b := 0x01 } 0x02 [0x90]) = some (0x0F, 0x16, 0x0001, 7) := by decide

/-- SUB M. -/
theorem test_sub_m :
    core4 (hostWrite 0x2000 0x80 (cpu { zeros with a := 0x80, h := 0x20, l := 0x00 } 0x02 [0x96])) = some (0x00, 0x46, 0x0001, 7) := by decide

/-- SBB L (borrow in 1). -/
theorem test_sbb_l :
    core4 (cpu { zeros with a := 0x04, l := 0x02 } 0x03 [0x9D]) = some (0x01, 0x02, 0x0001, 7) := by decide

/-- SBB B (00−FF−1: three-term borrow). -/
theorem test_sbb_b :
    core4 (cpu { zeros with a := 0x00, b := 0xFF } 0x03 [0x98]) = some (0x00, 0x57, 0x0001, 7) := by decide

/-- SBB B (00−00−1). -/
theorem test_sbb_b_2 :
    core4 (cpu { zeros with a := 0x00, b := 0x00 } 0x03 [0x98]) = some (0xFF, 0x97, 0x0001, 7) := by decide

/-- SBB M (AC from the borrow-in alone). -/
theorem test_sbb_m :
    core4 (hostWrite 0x0020 0x0F (cpu { zeros with a := 0x10, h := 0x00, l := 0x20 } 0x03 [0x9E])) = some (0x00, 0x56, 0x0001, 7) := by decide

/-- ADI 42. -/
theorem test_adi_42 : core4 (cpu { zeros with a := 0x14 } 0x02 [0xC6, 0x42]) = some (0x56, 0x06, 0x0002, 7) := by decide

/-- ACI 42 (carry in 1). -/
theorem test_aci_42 : core4 (cpu { zeros with a := 0x14 } 0x03 [0xCE, 0x42]) = some (0x57, 0x02, 0x0002, 7) := by decide

/-- ACI 00 (FF+00+1). -/
theorem test_aci_00_2 :
    core4 (cpu { zeros with a := 0xFF } 0x03 [0xCE, 0x00]) = some (0x00, 0x57, 0x0002, 7) := by decide

/-- SUI 01. -/
theorem test_sui_01 : core4 (cpu { zeros with a := 0x00 } 0x02 [0xD6, 0x01]) = some (0xFF, 0x97, 0x0002, 7) := by decide

/-- SBI 01 (borrow in 1). -/
theorem test_sbi_01 : core4 (cpu { zeros with a := 0x00 } 0x03 [0xDE, 0x01]) = some (0xFE, 0x93, 0x0002, 7) := by decide

/-- SBI 01 (borrow in 0). -/
theorem test_sbi_01_2 :
    core4 (cpu { zeros with a := 0x00 } 0x02 [0xDE, 0x01]) = some (0xFF, 0x97, 0x0002, 7) := by decide

/-- 2.2, DAA: the golden vector S3. -/
theorem test_daa_9a : core4 (cpu { zeros with a := 0x9A } 0x02 [0x27]) = some (0x00, 0x57, 0x0001, 4) := by decide

/-- 2.2, DAA: CY gate; +60 does not overflow; CY stays 1 (not clobbered). -/
theorem test_daa_15 : core4 (cpu { zeros with a := 0x15 } 0x03 [0x27]) = some (0x75, 0x03, 0x0001, 4) := by decide

/-- 2.2, the decimal adjust alone, first half of the table. -/
theorem test_daa_table :
    ([(0x9A, false, false), (0x9B, false, false), (0x00, false, false), (0x99, false, false), (0x0A, false, false),
      (0x12, true, false)].map fun p => ((daaFn p.1 p.2.1 p.2.2).a, (daaFn p.1 p.2.1 p.2.2).cy)) =
    [(0x00, true), (0x01, true), (0x00, false), (0x99, false), (0x10, false), (0x18, false)] := by decide

/-- 2.2, second half of the table. -/
theorem test_daa_table_2 :
    ([(0xA0, false, false), (0x15, false, true), (0x3C, false, false), (0x9F, true, false), (0x66, true, true),
      (0xFA, false, false)].map fun p => ((daaFn p.1 p.2.1 p.2.2).a, (daaFn p.1 p.2.1 p.2.2).cy)) =
    [(0x00, true), (0x75, true), (0x42, false), (0x05, true), (0xCC, true), (0x00, false)] := by decide

/-! ## Logical (2.3) -/

/-- ANA C. -/
theorem test_ana_c :
    core4 (cpu { zeros with a := 0xFC, c := 0x0F } 0x03 [0xA1]) = some (0x0C, 0x16, 0x0001, 7) := by decide

/-- ANA B (zero result, AC from bit 3 of A or B). -/
theorem test_ana_b :
    core4 (cpu { zeros with a := 0xF0, b := 0x0F } 0x03 [0xA0]) = some (0x00, 0x56, 0x0001, 7) := by decide

/-- ANA A (A unchanged, flags from A). -/
theorem test_ana_a : core4 (cpu { zeros with a := 0x08 } 0x03 [0xA7]) = some (0x08, 0x12, 0x0001, 7) := by decide

/-- ANA M. -/
theorem test_ana_m :
    core4 (hostWrite 0x4000 0x80 (cpu { zeros with a := 0xFF, h := 0x40, l := 0x00 } 0x02 [0xA6])) = some (0x80, 0x92, 0x0001, 7) := by decide

/-- XRA A (clears A). -/
theorem test_xra_a : core4 (cpu { zeros with a := 0x5C } 0x93 [0xAF]) = some (0x00, 0x46, 0x0001, 7) := by decide

/-- XRA B. -/
theorem test_xra_b :
    core4 (cpu { zeros with a := 0xFF, b := 0x0F } 0x13 [0xA8]) = some (0xF0, 0x86, 0x0001, 7) := by decide

/-- XRA M. -/
theorem test_xra_m :
    core4 (hostWrite 0x0030 0xAA (cpu { zeros with a := 0x55, h := 0x00, l := 0x30 } 0x02 [0xAE])) = some (0xFF, 0x86, 0x0001, 7) := by decide

/-- ORA C. -/
theorem test_ora_c :
    core4 (cpu { zeros with a := 0x33, c := 0x0F } 0x13 [0xB1]) = some (0x3F, 0x06, 0x0001, 7) := by decide

/-- ORA A (tests A). -/
theorem test_ora_a : core4 (cpu { zeros with a := 0x00 } 0x13 [0xB7]) = some (0x00, 0x46, 0x0001, 7) := by decide

/-- ORA M. -/
theorem test_ora_m :
    core4 (hostWrite 0x0030 0x80 (cpu { zeros with a := 0x01, h := 0x00, l := 0x30 } 0x02 [0xB6])) = some (0x81, 0x86, 0x0001, 7) := by decide

/-- ANI 0F. -/
theorem test_ani_0f : core4 (cpu { zeros with a := 0x3A } 0x03 [0xE6, 0x0F]) = some (0x0A, 0x16, 0x0002, 7) := by decide

/-- XRI 81. -/
theorem test_xri_81 : core4 (cpu { zeros with a := 0x3B } 0x03 [0xEE, 0x81]) = some (0xBA, 0x82, 0x0002, 7) := by decide

/-- ORI 0F. -/
theorem test_ori_0f : core4 (cpu { zeros with a := 0xB5 } 0x03 [0xF6, 0x0F]) = some (0xBF, 0x82, 0x0002, 7) := by decide

/-! ## Compare (2.4) -/

/-- CMP E (A > E). -/
theorem test_cmp_e :
    core4 (cpu { zeros with a := 0x0A, e := 0x05 } 0x02 [0xBB]) = some (0x0A, 0x06, 0x0001, 7) := by decide

/-- CMP E (A < E). -/
theorem test_cmp_e_2 :
    core4 (cpu { zeros with a := 0x02, e := 0x05 } 0x02 [0xBB]) = some (0x02, 0x93, 0x0001, 7) := by decide

/-- CMP A (always equal). -/
theorem test_cmp_a : core4 (cpu { zeros with a := 0x77 } 0x02 [0xBF]) = some (0x77, 0x46, 0x0001, 7) := by decide

/-- CMP B (clears old CY). -/
theorem test_cmp_b :
    core4 (cpu { zeros with a := 0x00, b := 0x00 } 0x03 [0xB8]) = some (0x00, 0x46, 0x0001, 7) := by decide

/-- CMP M. -/
theorem test_cmp_m :
    core4 (hostWrite 0x4000 0x5A (cpu { zeros with a := 0x5A, h := 0x40, l := 0x00 } 0x02 [0xBE])) = some (0x5A, 0x46, 0x0001, 7) := by decide

/-- CPI 40. -/
theorem test_cpi_40 : core4 (cpu { zeros with a := 0x4A } 0x02 [0xFE, 0x40]) = some (0x4A, 0x06, 0x0002, 7) := by decide

/-- CPI 80 (7F − 80: borrow, sign set). -/
theorem test_cpi_80_2 :
    core4 (cpu { zeros with a := 0x7F } 0x02 [0xFE, 0x80]) = some (0x7F, 0x87, 0x0002, 7) := by decide

/-! ## Rotate, complement and carry (2.5, 2.6) -/

/-- RLC. -/
theorem test_rlc : core4 (cpu { zeros with a := 0xF2 } 0x02 [0x07]) = some (0xE5, 0x03, 0x0001, 4) := by decide

/-- RLC, other flags kept. -/
theorem test_rlc_keeps_flags :
    core4 (cpu { zeros with a := 0x80 } 0xD6 [0x07]) = some (0x01, 0xD7, 0x0001, 4) := by decide

/-- RRC. -/
theorem test_rrc : core4 (cpu { zeros with a := 0xF2 } 0x02 [0x0F]) = some (0x79, 0x02, 0x0001, 4) := by decide

/-- RRC. -/
theorem test_rrc_2 : core4 (cpu { zeros with a := 0x01 } 0x02 [0x0F]) = some (0x80, 0x03, 0x0001, 4) := by decide

/-- RAL, CY in 0. -/
theorem test_ral : core4 (cpu { zeros with a := 0xB5 } 0x02 [0x17]) = some (0x6A, 0x03, 0x0001, 4) := by decide

/-- RAL, CY in 1. -/
theorem test_ral_2 : core4 (cpu { zeros with a := 0x80 } 0x03 [0x17]) = some (0x01, 0x03, 0x0001, 4) := by decide

/-- RAR, CY in 1. -/
theorem test_rar : core4 (cpu { zeros with a := 0x6A } 0x03 [0x1F]) = some (0xB5, 0x02, 0x0001, 4) := by decide

/-- RAR, other flags kept. -/
theorem test_rar_keeps_flags :
    core4 (cpu { zeros with a := 0x00 } 0xD7 [0x1F]) = some (0x80, 0xD6, 0x0001, 4) := by decide

/-- CMA. -/
theorem test_cma : core4 (cpu { zeros with a := 0x51 } 0xD7 [0x2F]) = some (0xAE, 0xD7, 0x0001, 4) := by decide

/-- CMA. -/
theorem test_cma_writes_no_flag :
    core4 (cpu { zeros with a := 0x00 } 0x02 [0x2F]) = some (0xFF, 0x02, 0x0001, 4) := by decide

/-- CMC. -/
theorem test_cmc : core4 (cpu { zeros with a := 0x11 } 0xD7 [0x3F]) = some (0x11, 0xD6, 0x0001, 4) := by decide

/-- CMC. -/
theorem test_cmc_2 : core4 (cpu { zeros with a := 0x11 } 0x02 [0x3F]) = some (0x11, 0x03, 0x0001, 4) := by decide

/-- STC. -/
theorem test_stc : core4 (cpu { zeros with a := 0x11 } 0x02 [0x37]) = some (0x11, 0x03, 0x0001, 4) := by decide

/-- STC, already set. -/
theorem test_stc_2 : core4 (cpu { zeros with a := 0x11 } 0xD7 [0x37]) = some (0x11, 0xD7, 0x0001, 4) := by decide

/-! ## Data transfer (2.1) -/

/-- MVI M,AB. -/
theorem test_mvi_m :
    (tick (cpu { zeros with h := 0x12, l := 0x34 } 0xD7 [0x36, 0xAB])).map (fun t => (t.read1 0x1234, t.f, t.pc, t.cnt)) = some (0xAB, 0xD7, 0x0002, 10) := by decide

/-- LDA 2000. -/
theorem test_lda :
    (tick (hostWrite 0x2000 0x9C (cpu { zeros with a := 0x11 } 0xD7 [0x3A, 0x00, 0x20]))).map (fun t => (t.regs.a, t.f, t.pc, t.cnt)) = some (0x9C, 0xD7, 0x0003, 13) := by decide

/-- LDA 0001 reads its own operand byte. -/
theorem test_lda_own_operand :
    (tick (cpu { zeros with a := 0x11 } 0x02 [0x3A, 0x01, 0x00])).map (fun t => (t.regs.a, t.pc)) = some (0x01, 0x0003) := by decide

/-- STA FFFF. -/
theorem test_sta :
    (tick (cpu { zeros with a := 0x77 } 0xD7 [0x32, 0xFF, 0xFF])).map (fun t => (t.read1 0xFFFF, t.f, t.pc, t.cnt)) = some (0x77, 0xD7, 0x0003, 13) := by decide

/-- LHLD 3000. -/
theorem test_lhld :
    (tick (hostWrite 0x3001 0xAB (hostWrite 0x3000 0xCD (cpu { zeros with h := 0x01, l := 0x02 } 0x02 [0x2A, 0x00, 0x30])))).map (fun t => (t.regs.l, t.regs.h, t.pc, t.cnt)) = some (0xCD, 0xAB, 0x0003, 16) := by decide

/-- LHLD FFFF: the high byte is Mem[0000], the opcode byte itself. -/
theorem test_lhld_wraps :
    (tick (hostWrite 0xFFFF 0x12 (cpu zeros 0x02 [0x2A, 0xFF, 0xFF]))).map (fun t => (t.regs.l, t.regs.h)) = some (0x12, 0x2A) := by decide

/-- SHLD 3000. -/
theorem test_shld :
    (tick (cpu { zeros with h := 0xAB, l := 0xCD } 0x02 [0x22, 0x00, 0x30])).map (fun t => (t.read1 0x3000, t.read1 0x3001, t.pc, t.cnt)) = some (0xCD, 0xAB, 0x0003, 16) := by decide

/-- SHLD FFFF overwrites its own opcode. -/
theorem test_shld_wraps :
    (tick (cpu { zeros with h := 0xAB, l := 0xCD } 0x02 [0x22, 0xFF, 0xFF])).map (fun t => (t.read1 0xFFFF, t.read1 0x0000, t.pc)) = some (0xCD, 0xAB, 0x0003) := by decide

/-- XCHG, S7. -/
theorem test_xchg :
    (tick (cpu { zeros with d := 0x33, e := 0x55, h := 0x00, l := 0xFF } 0xD7 [0xEB])).map (fun t => (t.regs.d, t.regs.e, t.regs.h, t.regs.l, t.f, t.cnt)) = some (0x00, 0xFF, 0x33, 0x55, 0xD7, 4) := by decide

/-! ## Jump and the fallback (2.7, 2.8) -/

/-- JMP 1234. -/
theorem test_jmp :
    (tick (cpu zeros 0xD7 [0xC3, 0x34, 0x12])).map (fun t => (t.pc, t.f, t.cnt)) = some (0x1234, 0xD7, 10) := by decide

/-- JMP at FFFE, its operand bytes wrap. -/
theorem test_jmp_operand_wraps :
    (tick { cpu zeros 0x02 [0x56] with pc := 0xFFFE, mem := [(0, 0x56), (0xFFFE, 0xC3), (0xFFFF, 0x78)] }).map (·.pc) =
    some 0x5678 := by decide

/-- Byte 00. -/
theorem test_undef00 :
    (tick (cpu { zeros with a := 0x5A } 0xD7 [0x00])).map (fun t => (t.pc, t.regs, t.f, t.ud, t.out, t.cnt)) = some (0x0001, { zeros with a := 0x5A }, 0xD7, true, { fetched := true, undef := true }, 4) := by decide

/-- Byte 3E: PC = 0001, not 0002. -/
theorem test_undef3E :
    (tick (cpu zeros 0x02 [0x3E, 0x05])).map (fun t => (t.pc, t.regs.a, t.ud)) = some (0x0001, 0x00, true) := by decide

/-- Byte CD: SP unchanged, nothing written. -/
theorem test_undefCD :
    (tick (cpu zeros 0x02 [0xCD, 0x00, 0x10])).map (fun t => (t.pc, t.sp, t.mem, t.ud)) = some (0x0001, 0xBEEF, [(0, 0xCD), (2, 0x10)], true) := by decide

/-! ## The scheduler (S5, S6, 2.9) -/

/-- A busy tick changes cnt alone; UD stays. -/
theorem test_busy_tick :
    (tick { cpu zeros 0x02 [0xEB] with cnt := 5, ud := true }).map (fun t => (t.pc, t.cnt, t.ud, t.out)) =
    some (0x0000, 4, true, { fetched := false, undef := false }) := by decide

/-- S5, tick 11: with cnt = 1 the tick fetches. -/
theorem test_tick_at_one_fetches :
    (tick { cpu { zeros with d := 0x33 } 0x02 [0xEB] with cnt := 1 }).map (fun t => (t.pc, t.cnt, t.regs.h)) =
    some (0x0001, 4, 0x33) := by decide

/-- S6. -/
theorem test_add_immediate_scenario :
    core4 (cpu { zeros with a := 0x01 } 0x00 [0xC6, 0x05]) = some (0x06, 0x04, 0x0002, 7) := by decide

/-- P4, tick 64: the operand of ANI at FFFF is at 0000. -/
theorem test_ani_across_the_top :
    (tick { cpu { zeros with a := 0xFB } 0x02 [] with pc := 0xFFFF, mem := [(0, 0xC3), (0xFFFF, 0xE6)] }).map
    (fun t => (t.regs.a, t.f, t.pc)) = some (0xC3, 0x96, 0x0001) := by decide

/-- 2.9: reset in a busy period. -/
theorem test_reset_in_busy_period :
    (hostReset { regs := zeros, sp := 0 } { cpu { zeros with a := 0x83 } 0x92 [0xEB] with cnt := 5, ud := true }) =
    { State.reset with mem := [(0, 0xEB)] } := by decide

/-! ## The ALU on bytes (S1, S2) -/

/-- S1. -/
theorem test_add_flags :
    ([(0xFF, 0x01), (0xF0, 0x10), (0x0F, 0x01), (0x7F, 0x80), (0x80, 0x80), (0x08, 0x08)].map
      fun (p : Byte × Byte) => ((add8 p.1 p.2 false).cy, (add8 p.1 p.2 false).ac)) =
    [(true, true), (true, false), (false, true), (false, false), (true, false), (false, true)] := by decide

/-- S2. -/
theorem test_parity_literals :
    ([0x0F, 0x01, 0x00, 0xFF, 0x80, 0x03, 0x7F, 0x02].map fun (v : Byte) => (aluOut v false false).p) =
    [true, false, true, true, false, true, false, false] := by decide

/-! ## Witnesses: for each statement with hypotheses, a state and operands that meet all of them together, and for the clauses
of a statement the values at the ends of their ranges -/

/-- STA of the address just past itself, with 0xEB (XCHG) in A. -/
def storeNext : State := cpu { zeros with a := 0xEB, d := 0x33 } 0x02 [0x32, 0x03, 0x00]

/-- A jump to its own address. -/
def selfJump : State := cpu zeros 0x02 [0xC3, 0x00, 0x00]

/-- A byte without a handler, then XCHG. -/
def undefFirst : State := cpu zeros 0x02 [0x76, 0xEB]

/-- A 10-cycle MVI M of 0x77 to 0x5566, then XCHG (95_test_vectors.md S5). -/
def tenCycle : State := cpu { zeros with h := 0x55, l := 0x66 } 0x02 [0x36, 0x77, 0xEB]

theorem test_witness_ResetMeetsInvariant : storeNext.mem.wf = true ∧ storeNext.mem ≠ [] := by decide

theorem test_witness_TickRunsTheDecodedInstruction :
    (0 < { tenCycle with cnt := 2 }.cnt - 1) ∧ ¬ (0 < { tenCycle with cnt := 1 }.cnt - 1) ∧
    decodeBytes (tenCycle.read1 tenCycle.pc) (tenCycle.read1 (tenCycle.pc + 1)) (tenCycle.read1 (tenCycle.pc + 2))
      = .mviM 0x77 ∧ (Instr.mviM 0x77).wellFormed = true := by decide

theorem test_witness_FetchTickWritesPcAndCount :
    (∃ t, exec .xchg { tenCycle with pc := 0xFFFF } = .next t ∧ t.pc = 0x0000) ∧
    (∃ t, exec (.jmp 0xFFFF) tenCycle = .next t ∧ t.pc = 0xFFFF) := ⟨⟨_, rfl, by decide⟩, ⟨_, rfl, by decide⟩⟩

theorem test_witness_FetchTickExactlyWhenReady :
    (∃ t, step { tenCycle with cnt := 1 } = .next t ∧ t.out.fetched = true) ∧
    (∃ t, step { tenCycle with cnt := 2 } = .next t ∧ t.out.fetched = false) := ⟨⟨_, rfl, by decide⟩, ⟨_, rfl, by decide⟩⟩

/-- k at both ends of 1..c - 1. -/
theorem test_witness_PacingLaw :
    tenCycle.cnt ≤ 1 ∧ cyclesOf (tenCycle.read1 tenCycle.pc) = 10 ∧ ((1 : Nat) ≤ 1 ∧ 1 < 10) ∧ (1 : Nat) ≤ 9 ∧ 9 < 10 := by
  decide

theorem test_witness_TenCycleInstructionTiming :
    tenCycle.cnt ≤ 1 ∧ cyclesOf (tenCycle.read1 tenCycle.pc) = 10 ∧ step tenCycle = .next (after tenCycle) ∧
    ∀ a16, fetch (after tenCycle) ≠ .jmp a16 :=
  ⟨by decide, by decide, rfl, fun a16 h => by
    have hx : fetch (after tenCycle) = .xchg := by decide
    rw [hx] at h
    exact Instr.noConfusion h⟩

theorem test_witness_TicksRefineInstructionRun :
    tenCycle.cnt ≤ 1 ∧ fetchTickNumber 0 tenCycle = 1 ∧ fetchTickNumber 1 tenCycle = 11 := by decide

theorem test_witness_TickKeepsInvariant : Inv State.reset ∧ step State.reset = .next (after State.reset) :=
  ⟨by decide, rfl⟩

/-- The last clause after one tick, and the first ones at k = 0 and k = 1. -/
theorem test_witness_InvariantsAfterEveryTick :
    ∃ t u, ticks 1 (hostReset { regs := zeros, sp := 0xFFFF } undefFirst) = .next t ∧ step t = .next u ∧ t.ud = true ∧
      t.cnt = 4 ∧ t.sp = 0xFFFF := ⟨_, _, rfl, rfl, by decide⟩

theorem test_witness_TickNeverWritesInertState :
    ∃ t, step { tenCycle with ud := true } = .next t ∧ { tenCycle with ud := true }.ud = true := ⟨_, rfl, rfl⟩

theorem test_witness_InertStateIsNeverRead :
    ∃ t, step undefFirst = .next t ∧ t.out.undef = true ∧ withInert 0x1234 0x56 0xFF true undefFirst ≠ undefFirst :=
  ⟨_, rfl, by decide, by decide⟩

/-- A next state that every clause's premise holds of: ADD B is neither XCHG nor LHLD, and STA writes no accumulator. -/
theorem test_witness_RegistersWrittenOnlyByTheirInstructions :
    (∃ t, exec (.sta 0x2000) storeNext = .next t) ∧ Instr.sta 0x2000 ≠ .xchg ∧ (∀ a16, Instr.sta 0x2000 ≠ .lhld a16) ∧
    writesA (Instr.sta 0x2000).opcode = false :=
  ⟨⟨_, rfl⟩, fun h => Instr.noConfusion h, fun _ h => Instr.noConfusion h, by decide⟩

/-- The ends of the ranges of `writesA` and `flagMask`. -/
theorem test_witness_table_edges :
    writesA 0x7F = false ∧ writesA 0x80 = true ∧ writesA 0xB7 = true ∧ writesA 0xB8 = false ∧ writesA 0xFE = false ∧
    flagMask 0x7F = 0x00 ∧ flagMask 0x80 = 0xD5 ∧ flagMask 0xBF = 0xD5 ∧ flagMask 0xC0 = 0x00 ∧ flagMask 0x3F = 0x01 ∧
    flagMask 0x2F = 0x00 := by decide

theorem test_witness_FlagsOutsideTheMaskAreKept : ∃ t, exec .stc storeNext = .next t ∧ t.f = 0x03 := ⟨_, rfl, by decide⟩

theorem test_witness_OnlyStoresChangeMemory :
    storeNext.mem.wf = true ∧ ∃ t, exec (.shld 0xFFFF) storeNext = .next t ∧
      storedAddresses (.shld 0xFFFF) storeNext = [0xFFFF, 0x0000] := ⟨by decide, _, rfl, by decide⟩

/-- An undefined opcode; a handled one; a busy tick. -/
theorem test_witness_UndefinedOpcodeEventExactly :
    (∃ t, step undefFirst = .next t ∧ t.out.undef = true ∧ t.ud = true) ∧
    (∃ t, step tenCycle = .next t ∧ t.out.undef = false ∧ t.ud = false) ∧
    (∃ t, step { undefFirst with cnt := 2 } = .next t ∧ t.out.undef = false) :=
  ⟨⟨_, rfl, by decide⟩, ⟨_, rfl, by decide⟩, ⟨_, rfl, by decide⟩⟩

theorem test_witness_CheckedStepFaultsOnceLatched :
    faulted { tenCycle with ud := true } = true ∧ checkedStep undefFirst = .fault .undefinedOpcode ∧
    ∃ t, checkedStep tenCycle = .next t := ⟨rfl, rfl, _, rfl⟩

/-- Both bytes of a two-byte write that wraps, and a byte beside them. -/
theorem test_witness_MemoryAccessPrimitives :
    storeNext.mem.wf = true ∧ (storeNext.write2 0xFFFF 0xABCD).read1 0xFFFF = 0xCD ∧
    (storeNext.write2 0xFFFF 0xABCD).read1 0x0000 = 0xAB ∧ (storeNext.write2 0xFFFF 0xABCD).read1 0x0001 = 0x03 := by decide

theorem test_witness_WritesKeepMemoryCanonical :
    storeNext.mem.wf = true ∧ (storeNext.write1 0x0000 0x00).mem = [(1, 0x03)] := by decide

theorem test_witness_CanonicalMemoriesAreExtensional :
    storeNext.mem.wf = true ∧ (hostReset { regs := zeros, sp := 0 } storeNext).mem.wf = true ∧
    ∀ a : Word, (hostReset { regs := zeros, sp := 0 } storeNext).read1 a = storeNext.read1 a :=
  ⟨by decide, by decide, fun _ => rfl⟩

theorem test_witness_HostPopulatesAndInspects : (hostWrite 0x0001 0x00 storeNext).mem.wf = true := by decide

theorem test_witness_StoreIntoNextOpcodeIsFetched :
    storeNext.mem.wf = true ∧ storeNext.cnt ≤ 1 ∧ fetch storeNext = .sta (storeNext.pc + 3) ∧
    step storeNext = .next (after storeNext) ∧ fetch (after storeNext) = .xchg :=
  ⟨by decide, by decide, by decide, rfl, by decide⟩

theorem test_witness_StoreThenLoadRoundTrip :
    storeNext.mem.wf = true ∧ ∃ t u, exec (.sta 0x2000) storeNext = .next t ∧
      exec (.lda 0x2000) (t.setReg .a 0x00) = .next u := ⟨by decide, _, _, rfl, rfl⟩

/-- The bytes at the ends of the rule's lists. -/
theorem test_witness_FallbackBytes :
    storeNext.out.undef = false ∧ ([0x3E, 0x3F, 0x40, 0x7F, 0x80, 0xBF, 0xC0, 0xFD, 0xFE, 0xFF].map isFallback) =
      [true, false, true, true, false, false, true, true, false, true] := by decide

theorem test_witness_stores :
    storeNext.mem.wf = true ∧ storedAddresses (.mviM 0x5A) tenCycle = [0x5566] ∧
    storedAddresses (.sta 0xFFFF) tenCycle = [0xFFFF] := by decide

theorem test_witness_DaaRequiredProperties :
    DaaRequired daaFn ∧ (cpu { zeros with a := 0x9A } 0x02 [0x27]).regs.a = 0x9A ∧
    (cpu { zeros with a := 0x9A } 0x02 [0x27]).f.getLsbD 4 = false ∧
    (cpu { zeros with a := 0x9A } 0x02 [0x27]).f.getLsbD 0 = false ∧
    (∃ t, exec .daa (cpu { zeros with a := 0x9A } 0x02 [0x27]) = .next t) ∧
    (cpu zeros 0x03 [0x27]).f.getLsbD 0 = true :=
  ⟨⟨by decide, fun _ _ => rfl⟩, by decide, by decide, by decide, ⟨_, rfl⟩, by decide⟩

theorem test_witness_CompareInstructions :
    (∃ t, exec (.cpi 0xEB) storeNext = .next t ∧ t.f.getLsbD 6 = true) ∧
    (∃ t, exec (.cpi 0xEC) storeNext = .next t ∧ t.f.getLsbD 6 = false) := ⟨⟨_, rfl, by decide⟩, ⟨_, rfl, by decide⟩⟩

theorem test_witness_JumpToSelfLoops :
    selfJump.cnt ≤ 1 ∧ fetch selfJump = .jmp selfJump.pc ∧ step selfJump = .next (after selfJump) ∧
    (after selfJump).cnt = 10 := ⟨by decide, by decide, rfl, by decide⟩

theorem test_witness_UndefinedOpcodeFallback :
    Instr.undef00.catalogued = false ∧ Instr.undefFF.catalogued = false ∧ (Instr.cpi 0x00).catalogued = true := by decide

/-- The operands at the edge of a carry: FF + FF + 1, 00 - FF - 1 (b + bin is 256), 10 - 0F - 1. -/
theorem test_witness_carry_edges :
    carryOut 0xFF 0xFF true = true ∧ carryOut 0xFF 0x00 false = false ∧ carryOut 0xFF 0x00 true = true ∧
    halfCarry 0x0F 0x00 true = true ∧ halfCarry 0x0F 0x00 false = false ∧ borrowOut 0x00 0xFF true = true ∧
    borrowOut 0x00 0x00 false = false ∧ halfBorrow 0x10 0x0F true = true ∧ evenParity 0x00 = true := by decide

end Sys2Proof.Tests
end

/-! PROOFS. What a tick leaves alone and what it never reads (10_state.md R12, R14, R16, R18, R19, R21, R22, R27): the
invariants of the tick, then what it never writes, what it never reads and who writes which register, then the statements. -/

/-! ## Invariants of the tick, and of a run -/

namespace Sys2Proof.Machine

open Sys2Proof.Safety

/-- From every state some tick follows (48_undefined_opcode.md R141). -/
theorem exists_step_eq_next (s : State) : ∃ t, step s = .next t := by
  by_cases hc : s.cnt ≤ 1
  · exact ⟨_, (step_of_ready hc).trans (exec_handler _ _)⟩
  · exact ⟨_, step_of_busy (by omega)⟩

/-- An invariant of the tick that holds at the start of a run holds after every number of ticks. -/
theorem ticks_invariant {P : State → Prop} (hstep : ∀ s t, P s → step s = .next t → P t) (k : Nat) {s : State} (hs : P s) :
    ∃ t, ticks k s = .next t ∧ P t := by
  induction k generalizing s with
  | zero => exact ⟨s, ticks_zero s, hs⟩
  | succ k ih =>
    obtain ⟨u, hu⟩ := exists_step_eq_next s
    rw [ticks_succ k hu]
    exact ih (hstep s u hs hu)

/-- After a tick from a counter in range the counter is in 1..16: a busy tick leaves at least 1, a fetch tick loads a cost
(10_state.md R21, 49_step_scheduler.md R143). -/
theorem step_cnt_range {s t : State} (hle : s.cnt ≤ 16) (h : step s = .next t) : 1 ≤ t.cnt ∧ t.cnt ≤ 16 := by
  obtain ⟨hbusy, rfl⟩ | ⟨-, rfl⟩ := step_cases h
  · simp only [countDown_cnt]
    omega
  · have hcost := cyclesOf_range (fetch s).opcode
    simp only [finishAt_cnt, Int.ofNat_eq_natCast]
    omega

/-- A tick keeps memory canonical. -/
theorem step_mem_wf {s t : State} (hwf : s.mem.wf = true) (h : step s = .next t) : t.mem.wf = true := by
  obtain ⟨-, rfl⟩ | ⟨-, rfl⟩ := step_cases h
  · exact hwf
  · exact (handlerOf (fetch s)).effect_wf (beginFetch (countDown s)) hwf

/-- A tick shows the output `undef` only with `fetched` and with UD set (48_undefined_opcode.md R139). -/
theorem step_out_undef {s t : State} (h : step s = .next t) (hundef : t.out.undef = true) :
    t.out.fetched = true ∧ t.ud = true := by
  obtain ⟨-, rfl⟩ | ⟨-, rfl⟩ := step_cases h
  · cases hundef
  · obtain ⟨hfetched, hraised, hud⟩ := (handlerOf (fetch s)).effect_event (beginFetch (countDown s))
    have hfallback : handlerOf (fetch s) = .fallback := by simpa [hraised] using hundef
    exact ⟨hfetched, by rw [finishAt_ud, hud, hfallback]; simp⟩

/-! ## What no tick writes -/

/-- `t` has the SP, r[6], B, C and flag bits 1, 3 and 5 of `s`, and UD if `s` has it. -/
structure InertKept (s t : State) : Prop where
  sp : t.sp = s.sp
  cell6 : t.regs.cell6 = s.regs.cell6
  b : t.regs.b = s.regs.b
  c : t.regs.c = s.regs.c
  unused : t.f &&& 0x2A#8 = s.f &&& 0x2A#8
  ud : s.ud = true → t.ud = true

/-- No tick writes them: a busy tick touches cnt and the outputs, a fetch tick runs one handler. -/
theorem step_inertKept {s t : State} (h : step s = .next t) : InertKept s t := by
  obtain ⟨-, rfl⟩ | ⟨-, rfl⟩ := step_cases h
  · exact ⟨rfl, rfl, rfl, rfl, rfl, id⟩
  · obtain ⟨hsp, hcell6, hb, hc, hunused, hud⟩ := (handlerOf (fetch s)).effect_inert (beginFetch (countDown s))
    exact ⟨hsp, hcell6, hb, hc, hunused, hud⟩

/-- Flag bytes that agree under the mask 0x2A agree in bits 1, 3 and 5. -/
theorem unusedBitsKept_of_and_eq {f g : Byte} (h : g &&& 0x2A#8 = f &&& 0x2A#8) : UnusedBitsKept f g := by
  have hbit (i : Nat) : (g &&& 0x2A#8).getLsbD i = (f &&& 0x2A#8).getLsbD i := by rw [h]
  exact ⟨by simpa using hbit 1, by simpa using hbit 3, by simpa using hbit 5⟩

/-- What holds of every state since a reset with the parameters `p` (10_state.md R27). -/
structure SinceReset (p : ResetParams) (s : State) : Prop where
  sp : s.sp = p.sp
  cell6 : s.regs.cell6 = p.regs.cell6
  b : s.regs.b = p.regs.b
  c : s.regs.c = p.regs.c
  unused : s.f &&& 0x2A#8 = 0x02#8
  cnt_le : s.cnt ≤ 16

theorem sinceReset_hostReset (p : ResetParams) (s : State) : SinceReset p (hostReset p s) :=
  ⟨rfl, rfl, rfl, rfl, by simp, by simp⟩

theorem SinceReset.of_step {p : ResetParams} {s t : State} (hs : SinceReset p s) (h : step s = .next t) : SinceReset p t :=
  have hkept := step_inertKept h
  ⟨hkept.sp.trans hs.sp, hkept.cell6.trans hs.cell6, hkept.b.trans hs.b, hkept.c.trans hs.c,
    hkept.unused.trans hs.unused, (step_cnt_range hs.cnt_le h).2⟩

/-- After `k` ticks from a reset the machine is as `SinceReset` says, and its counter tells whether it has ticked at all. -/
theorem ticks_hostReset (p : ResetParams) (s : State) (k : Nat) :
    ∃ t, ticks k (hostReset p s) = .next t ∧ SinceReset p t ∧ (t.cnt = 0 ↔ k = 0) ∧ (k ≠ 0 → 1 ≤ t.cnt) := by
  cases k with
  | zero => exact ⟨_, ticks_zero _, sinceReset_hostReset p s, by simp, by simp⟩
  | succ k =>
    obtain ⟨u, hu⟩ := exists_step_eq_next (hostReset p s)
    have hfirst := sinceReset_hostReset p s
    obtain ⟨t, ht, hsince, hpos⟩ := ticks_invariant (P := fun v => SinceReset p v ∧ 1 ≤ v.cnt)
      (fun v w hv hw => ⟨hv.1.of_step hw, (step_cnt_range hv.1.cnt_le hw).1⟩) k
      ⟨hfirst.of_step hu, (step_cnt_range hfirst.cnt_le hu).1⟩
    exact ⟨t, (ticks_succ k hu).trans ht, hsince, by omega, fun _ => hpos⟩

/-! ## What no tick reads

Every operation a handler is built from commutes with `withInert`; so does the handler, and so does the tick. -/

section
variable (sp : Word) (cell6 unused : Byte) (ud : Bool) (s : State)

/-- The Carry flag is none of the bits 1, 3 and 5. -/
@[simp] theorem testFlag_maskCY_withInert :
    testFlag (withInert sp cell6 unused ud s).f maskCY = testFlag s.f maskCY := by
  simp [testFlag_maskCY, withInert]

/-- The Auxiliary Carry flag is none of the bits 1, 3 and 5. -/
@[simp] theorem testFlag_maskAC_withInert :
    testFlag (withInert sp cell6 unused ud s).f maskAC = testFlag s.f maskAC := by
  simp [testFlag_maskAC, withInert]

@[simp] theorem setAluFlags_withInert (o : AluOut) :
    setAluFlags o (withInert sp cell6 unused ud s) = withInert sp cell6 unused ud (setAluFlags o s) :=
  congrArg (fun f => { withInert sp cell6 unused ud s with f := f }) (assignAlu_replaceUnused s.f unused o)

@[simp] theorem setCarry_withInert (b : Bool) :
    setCarry b (withInert sp cell6 unused ud s) = withInert sp cell6 unused ud (setCarry b s) :=
  congrArg (fun f => { withInert sp cell6 unused ud s with f := f }) (assignCarry_replaceUnused s.f unused b)

@[simp] theorem withInert_regs_a : (withInert sp cell6 unused ud s).regs.a = s.regs.a := rfl

@[simp] theorem withInert_regs_pair (p : Pair) : (withInert sp cell6 unused ud s).regs.pair p = s.regs.pair p := by
  cases p <;> rfl

@[simp] theorem read1_withInert (a : Word) : (withInert sp cell6 unused ud s).read1 a = s.read1 a := rfl

@[simp] theorem read2_withInert (a : Word) : (withInert sp cell6 unused ud s).read2 a = s.read2 a := rfl

@[simp] theorem addressM_withInert : addressM (withInert sp cell6 unused ud s) = addressM s := rfl

@[simp] theorem setReg_withInert (x : Reg) (v : Byte) :
    (withInert sp cell6 unused ud s).setReg x v = withInert sp cell6 unused ud (s.setReg x v) := by
  cases x <;> rfl

@[simp] theorem setPair_withInert (p : Pair) (v : Word) :
    (withInert sp cell6 unused ud s).setPair p v = withInert sp cell6 unused ud (s.setPair p v) := by
  cases p <;> rfl

@[simp] theorem write1_withInert (a : Word) (v : Byte) :
    (withInert sp cell6 unused ud s).write1 a v = withInert sp cell6 unused ud (s.write1 a v) := rfl

@[simp] theorem write2_withInert (a v : Word) :
    (withInert sp cell6 unused ud s).write2 a v = withInert sp cell6 unused ud (s.write2 a v) := rfl

/-- Raising the event sets UD, whatever it was. -/
@[simp] theorem raiseUndefinedOpcode_withInert :
    raiseUndefinedOpcode (withInert sp cell6 unused ud s)
      = withInert sp cell6 unused true (raiseUndefinedOpcode s) := rfl

@[simp] theorem accumulate_withInert (o : AluOut) :
    accumulate o (withInert sp cell6 unused ud s) = withInert sp cell6 unused ud (accumulate o s) := by
  simp [accumulate]

/-- No operand is r[6]. -/
@[simp] theorem Source.value_withInert (src : Source) :
    src.value (withInert sp cell6 unused ud s) = src.value s := by
  cases src with
  | reg r => cases r <;> rfl
  | m => rfl
  | imm d8 => rfl

/-- An accumulator operation reads A, its operand and, with a carry or borrow in, the Carry flag. -/
@[simp] theorem AluKind.apply_withInert (k : AluKind) (b : Byte) :
    k.apply b (withInert sp cell6 unused ud s) = withInert sp cell6 unused ud (k.apply b s) := by
  cases k <;> simp [AluKind.apply, addAcc, adcAcc, subAcc, sbbAcc, anaAcc, xraAcc, oraAcc, cmpAcc]

/-- A handler reads none of the inert state, and writes none of it but UD, which the fallback sets. -/
theorem Handler.effect_withInert (h : Handler) :
    h.effect (withInert sp cell6 unused ud s)
      = withInert sp cell6 unused (ud || decide (h = .fallback)) (h.effect s) := by
  cases h <;> simp [Handler.effect, adjustWith]

/-- An instruction does not read the inert state, whatever UD is; UD comes out as given or set by the fallback. -/
theorem exec_withInert (i : Instr) :
    exec i (withInert sp cell6 unused ud s)
      = .next (withInert sp cell6 unused (ud || decide (handlerOf i = .fallback))
          (finishAt i.opcode ((handlerOf i).nextPc i.opcode s) ((handlerOf i).effect s))) := by
  rw [exec_handler, Handler.effect_withInert, Handler.nextPc_congr (s := s) _ _ rfl]
  rfl

end

/-- A tick does not read the inert state: a busy tick passes it through, a fetch tick is one instruction. -/
theorem step_withInert {s t : State} (h : step s = .next t) (sp : Word) (cell6 unused : Byte) (ud : Bool) :
    step (withInert sp cell6 unused ud s) = .next (withInert sp cell6 unused (ud || t.out.undef) t) := by
  obtain ⟨hbusy, rfl⟩ | ⟨hready, rfl⟩ := step_cases h
  · rw [step_of_busy (s := withInert sp cell6 unused ud s) hbusy, countDown_out, Bool.or_false]
    rfl
  · obtain ⟨-, hraised, -⟩ := (handlerOf (fetch s)).effect_event (beginFetch (countDown s))
    rw [step_of_ready (s := withInert sp cell6 unused ud s) hready, finishAt_out, hraised]
    exact exec_withInert sp cell6 unused ud (beginFetch (countDown s)) (fetch s)

/-! ## Who writes which register -/

/-- Whether a handler writes the accumulator. -/
def Handler.writesAcc : Handler → Bool
  | .alu k _ => k != .cmp
  | .daa | .rotate _ | .cma | .lda _ => true
  | _ => false

/-- The opcode bytes that write the accumulator (10_state.md R14) are those of the handlers that do. -/
theorem writesA_opcode (i : Instr) : writesA i.opcode = (handlerOf i).writesAcc := by
  cases i <;> rfl

theorem eq_xchg_of_handlerOf {i : Instr} (h : handlerOf i = .xchg) : i = .xchg := by
  cases i <;> cases h
  rfl

theorem eq_lhld_of_handlerOf {i : Instr} {a16 : Word} (h : handlerOf i = .lhld a16) : i = .lhld a16 := by
  cases i <;> cases h
  rfl

/-- Only XCHG writes D and E. -/
theorem Handler.effect_de {h : Handler} (hx : h ≠ .xchg) (s : State) :
    (h.effect s).regs.d = s.regs.d ∧ (h.effect s).regs.e = s.regs.e := by
  cases h with
  | alu k src => cases k <;> exact ⟨rfl, rfl⟩
  | xchg => exact absurd rfl hx
  | _ => exact ⟨rfl, rfl⟩

/-- Only XCHG and LHLD write H and L. -/
theorem Handler.effect_hl {h : Handler} (hx : h ≠ .xchg) (hl : ∀ a16, h ≠ .lhld a16) (s : State) :
    (h.effect s).regs.h = s.regs.h ∧ (h.effect s).regs.l = s.regs.l := by
  cases h with
  | alu k src => cases k <;> exact ⟨rfl, rfl⟩
  | xchg => exact absurd rfl hx
  | lhld a16 => exact absurd rfl (hl a16)
  | _ => exact ⟨rfl, rfl⟩

/-- A handler that does not write the accumulator leaves it; a compare is the one ALU operation of these. -/
theorem Handler.effect_a {h : Handler} (hw : h.writesAcc = false) (s : State) : (h.effect s).regs.a = s.regs.a := by
  cases h with
  | alu k src =>
    have hk : k = .cmp := by simpa [Handler.writesAcc] using hw
    subst hk
    rfl
  | daa | rotate | cma | lda => cases hw
  | _ => rfl

/-! ## PC and the counter -/

/-- The next PC of an instruction that is no jump, as an integer (10_state.md R18). -/
theorem nextPc_toNat {i : Instr} (s : State) (hi : ∀ a16, i ≠ .jmp a16) :
    ((handlerOf i).nextPc i.opcode s).toNat = (s.pc.toNat + lenOf i.opcode) % 65536 := by
  rw [handlerOf_nextPc s hi]
  simp [BitVec.toNat_add]

end Sys2Proof.Machine

/-! ## The statements -/

namespace Sys2Proof.Proofs

open Sys2Proof.Machine Sys2Proof.Safety

/-- Settles O12, one clause of the invariant at a time. -/
theorem tickKeepsInvariant : Obligations.TickKeepsInvariant := by
  intro s t ⟨hwf, hflags, _, hle, _⟩ h
  obtain ⟨hpos, hle'⟩ := step_cnt_range hle h
  exact ⟨step_mem_wf hwf h, (step_inertKept h).unused.trans hflags, by omega, hle', step_out_undef h⟩

/-- Settles O15: the tick commutes with `withInert`, because every handler does. -/
theorem inertStateIsNeverRead : Obligations.InertStateIsNeverRead :=
  fun _ _ sp cell6 unused ud h => step_withInert h sp cell6 unused ud

/-- Settles O5, by the handler of the instruction: JMP gives its operand, every other one the next address. -/
theorem fetchTickWritesPcAndCount : Obligations.FetchTickWritesPcAndCount := by
  intro i s
  refine ⟨_, exec_handler i s, rfl, ?_⟩
  split
  case h_1 a16 => rfl
  case h_2 hi => exact nextPc_toNat s hi

/-- Settles O13, by the invariant `SinceReset` of the run from a reset. -/
theorem invariantsAfterEveryTick : Obligations.InvariantsAfterEveryTick := by
  intro p s k
  obtain ⟨t, ht, hsince, hzero, hpos⟩ := ticks_hostReset p s k
  exact ⟨t, ht, Nat.le_of_lt_succ t.pc.isLt, Nat.le_of_lt_succ t.sp.isLt, hsince.sp, hsince.cell6, hsince.b, hsince.c,
    hsince.unused, hzero, fun hk => ⟨hpos hk, hsince.cnt_le⟩, fun _ hu => (step_inertKept hu).ud⟩

/-- Settles O14, from the rule of what a tick keeps. -/
theorem tickNeverWritesInertState : Obligations.TickNeverWritesInertState := by
  intro s t h
  obtain ⟨hsp, hcell6, hb, hc, hunused, hud⟩ := step_inertKept h
  exact ⟨hsp, hcell6, hb, hc, unusedBitsKept_of_and_eq hunused, hud⟩

/-- Settles O16, register by register over the handlers. -/
theorem registersWrittenOnlyByTheirInstructions : Obligations.RegistersWrittenOnlyByTheirInstructions := by
  intro i s t h
  obtain rfl := exec_next h
  obtain ⟨-, hcell6, hb, hc, -, -⟩ := (handlerOf i).effect_inert s
  refine ⟨hb, hc, hcell6, fun hx => ?_, fun hx hl => ?_, fun hw => ?_⟩
  · exact Handler.effect_de (hx ∘ eq_xchg_of_handlerOf) s
  · exact Handler.effect_hl (hx ∘ eq_xchg_of_handlerOf) (fun a16 => hl a16 ∘ eq_lhld_of_handlerOf) s
  · exact Handler.effect_a ((writesA_opcode i).symm.trans hw) s

end Sys2Proof.Proofs

/-! PROOFS. Memory and the host port (20_memory.md R31, R34, R35, R41, R43): what a read gives after a two-byte write, which
addresses a write and a handler can change, and what the fetch after a store reads; then the statements. -/

/-! ## The two-byte accesses -/

namespace Sys2Proof.Machine

open Sys2Proof.Safety

theorem State.read1_write1_same {s : State} (a : Word) (v : Byte) (h : s.mem.wf = true) : (s.write1 a v).read1 a = v :=
  Memory.read_write_same v h

/-- After `MemWrite(a, 2, v)`, `MemRead(b, 1)` is the low byte at `a`, the high byte at `a + 1`, and as before elsewhere. -/
theorem State.read1_write2 {s : State} (a b v : Word) (h : s.mem.wf = true) :
    (s.write2 a v).read1 b = if b = a then lowByte v else if b = a + 1 then highByte v else s.read1 b := by
  rw [State.write2, State.read1_write1 _ _ _ (State.write1_wf _ _ h), State.read1_write1 _ _ _ h]
  by_cases hb : b = a <;> simp [hb]

/-- `MemRead(a, 2)` after `MemWrite(a, 2, v)` is `v`: also where the access wraps, its bytes lie at different addresses. -/
theorem State.read2_write2_same {s : State} (a v : Word) (h : s.mem.wf = true) : (s.write2 a v).read2 a = v := by
  have hne : a + 1 ≠ a := by simp
  rw [State.read2, State.read1_write2 _ _ _ h, State.read1_write2 _ _ _ h, if_neg hne, if_pos rfl, if_pos rfl,
    joinBytes_high_low]

/-! ## Which addresses change -/

theorem onlyStored_write1 {s : State} (a : Word) (v : Byte) (h : s.mem.wf = true) : OnlyStored [a] s (s.write1 a v) := by
  intro b hb
  rw [State.read1_write1 a b v h, if_neg (by simpa using hb)]

theorem onlyStored_write2 {s : State} (a v : Word) (h : s.mem.wf = true) :
    OnlyStored [a, a + 1] s (s.write2 a v) := by
  intro b hb
  obtain ⟨hlow, hhigh⟩ : b ≠ a ∧ b ≠ a + 1 := by simpa using hb
  rw [State.read1_write2 a b v h, if_neg hlow, if_neg hhigh]

/-- An update that does not touch memory stores nowhere. -/
theorem onlyStored_of_mem_eq {s t : State} (addresses : List Word) (h : t.mem = s.mem) : OnlyStored addresses s t :=
  fun b _ => State.read1_congr h b

/-- The addresses a handler stores to. -/
def Handler.storedAddresses (h : Handler) (s : State) : List Word :=
  match h with
  | .mviM _ => [addressM s]
  | .sta a16 => [a16]
  | .shld a16 => [a16, a16 + 1]
  | _ => []

theorem storedAddresses_eq_handler (i : Instr) (s : State) :
    Safety.storedAddresses i s = (handlerOf i).storedAddresses s := by
  cases i <;> rfl

/-- A handler changes memory at its stored addresses alone: three handlers are one write each, the others keep memory. -/
theorem Handler.effect_onlyStored (h : Handler) {s : State} (hw : s.mem.wf = true) :
    OnlyStored (h.storedAddresses s) s (h.effect s) := by
  cases h with
  | mviM d8 => exact onlyStored_write1 _ _ hw
  | sta a16 => exact onlyStored_write1 _ _ hw
  | shld a16 => exact onlyStored_write2 _ _ hw
  | alu k src => cases k <;> exact onlyStored_of_mem_eq _ rfl
  | _ => exact onlyStored_of_mem_eq _ rfl

/-! ## The fetch after a store -/

/-- A fetch takes its opcode byte from the address in PC (30_encoding.md R45). -/
theorem fetch_opcode (s : State) : (fetch s).opcode = s.read1 s.pc := opcode_decodeBytes _ _ _

/-- A fetch tick at STA: A is stored, PC passes the three bytes (41_data_transfer.md R76). -/
theorem step_of_ready_sta {s : State} {a16 : Word} (hready : s.cnt ≤ 1) (hfetch : fetch s = .sta a16) :
    step s = .next (finishAt 0x32 (s.pc + 3) ((beginFetch (countDown s)).write1 a16 s.regs.a)) := by
  rw [step_of_ready hready, hfetch]
  rfl

end Sys2Proof.Machine

/-! ## The statements -/

namespace Sys2Proof.Proofs

open Sys2Proof.Machine Sys2Proof.Safety

/-- Settles O18, by the handler of the instruction. -/
theorem onlyStoresChangeMemory : Obligations.OnlyStoresChangeMemory := by
  intro i s t hwf h
  obtain rfl := exec_next h
  rw [storedAddresses_eq_handler]
  exact (handlerOf i).effect_onlyStored hwf

/-- Settles O21, access by access. -/
theorem memoryAccessPrimitives : Obligations.MemoryAccessPrimitives :=
  fun _ a b v w hwf => ⟨State.read1_write1 a b v hwf, State.read1_write2 a b w hwf, joinBytes_toNat _ _,
    State.read2_write2_same a w hwf, rfl⟩

/-- Settles O25: the tick stores A where it leaves PC, and the next fetch reads its opcode there. -/
theorem storeIntoNextOpcodeIsFetched : Obligations.StoreIntoNextOpcodeIsFetched := by
  intro s t hwf hready hfetch h
  rw [step_of_ready_sta hready hfetch] at h
  injection h with h
  subst h
  rw [fetch_opcode]
  exact (State.read1_congr (finishAt_mem _ _ _) _).trans (State.read1_write1_same _ s.regs.a hwf)

/-- Settles O24: populating is a one-byte write, and inspecting answers the state it was given. -/
theorem hostPopulatesAndInspects : Obligations.HostPopulatesAndInspects :=
  fun s a v _ hwf => ⟨⟨hostWrite a v s, rfl, State.read1_write1_same a v hwf, onlyStored_write1 a v hwf, rfl⟩, rfl⟩

end Sys2Proof.Proofs

/-! PROOFS. Decoding and encoding (30_encoding.md R45 to R53): the length and the handler table in closed form, what a decoder
entry's operand bytes are, and that the decoder undoes the encoder; then the statements. -/

/-! ## The tables in closed form -/

namespace Sys2Proof.Machine

/-- LEN by the fields of the opcode byte (30_encoding.md R52). -/
theorem lenOf_closed_form : ∀ op : Byte, lenOf op =
    if op.toNat ∈ [0x22, 0x2A, 0x32, 0x3A, 0xC3] then 3
    else if op.toNat = 0x36 ∨ (op.extractLsb' 6 2 = 0b11 ∧ op.extractLsb' 0 3 = 0b110) then 2
    else 1 := by
  decide

/-- The bytes with no handler are the ones R51 of 30_encoding.md lists. -/
theorem hasHandler_eq_false_iff : ∀ op : Byte, hasHandler op = false ↔
    (op.toNat ≤ 0x3F ∧ op.toNat ∉ [0x07, 0x0F, 0x17, 0x1F, 0x22, 0x27, 0x2A, 0x2F, 0x32, 0x36, 0x37, 0x3A, 0x3F]) ∨
    (0x40 ≤ op.toNat ∧ op.toNat ≤ 0x7F) ∨
    (0xC0 ≤ op.toNat ∧ op.toNat ∉ [0xC3, 0xC6, 0xCE, 0xD6, 0xDE, 0xE6, 0xEB, 0xEE, 0xF6, 0xFE]) := by
  decide

/-! ## The encoder and the decoder -/

theorem length_encode (i : Instr) : (encode i).length = lenOf i.opcode := (lenOf_opcode i).symm

/-- The operand bytes of the opcode map's entry at `op`: the operand it takes, as many bytes as LEN says. -/
theorem opcodeMap_operandBytes (a16 : Word) :
    ∀ op : Byte, (tableAt (opcodeMap (lowByte a16) a16) op .undef00).operandBytes =
      [lowByte a16, highByte a16].take (lenOf op - 1) := by
  apply byte_cases
  intro n
  fin_cases n <;> rfl

/-- The decoded instruction keeps the operand bytes that its length reaches. -/
theorem operandBytes_decodeBytes (op b2 b3 : Byte) :
    (decodeBytes op b2 b3).operandBytes = [b2, b3].take (lenOf op - 1) := by
  have hentry := opcodeMap_operandBytes (joinBytes b3 b2) op
  rwa [lowByte_joinBytes, highByte_joinBytes] at hentry

/-- An instruction is decoded from its opcode and any bytes that begin with its operand bytes: an a16 is put together from its
halves, and no other operand is changed on the way (30_encoding.md R47). -/
theorem decodeBytes_opcode_operandBytes (i : Instr) (rest : List Byte) :
    decodeBytes i.opcode ((i.operandBytes ++ rest).getD 0 0) ((i.operandBytes ++ rest).getD 1 0) = i := by
  cases i with
  | shld a16 | lhld a16 | sta a16 | lda a16 | jmp a16 =>
    simp only [Instr.opcode, Instr.operandBytes]
    exact congrArg _ (joinBytes_high_low a16)
  | _ =>
    simp only [Instr.opcode, Instr.operandBytes]
    rfl

/-- Reading an opcode followed by exactly the operand bytes its length asks for takes those bytes and leaves the rest. -/
theorem decode_cons_append {op : Byte} {operands : List Byte} (hlen : lenOf op = operands.length + 1) (rest : List Byte) :
    decode (op :: (operands ++ rest)) =
      .ok (decodeBytes op ((operands ++ rest).getD 0 0) ((operands ++ rest).getD 1 0), rest) := by
  have henough : ¬ (operands ++ rest).length + 1 < lenOf op := by
    rw [hlen, List.length_append]
    omega
  have hdrop : (operands ++ rest).drop (lenOf op - 1) = rest := by
    rw [hlen, Nat.add_sub_cancel, List.drop_left]
  rw [decode, if_neg henough, hdrop]

/-! ## The event of an instruction -/

/-- From a state that shows no event, an instruction raises one exactly when its opcode byte has no handler
(48_undefined_opcode.md R139). -/
theorem handler_raises_iff (i : Instr) {s : State} (hs : s.out.undef = false) :
    ((handlerOf i).effect s).out.undef = true ↔ hasHandler i.opcode = false := by
  obtain ⟨-, hraised, -⟩ := (handlerOf i).effect_event s
  rw [hraised, hs, Bool.false_or, decide_eq_true_iff]
  exact handlerOf_fallback i

end Sys2Proof.Machine

/-! ## The statements -/

namespace Sys2Proof.Proofs

open Sys2Proof.Machine

/-- Settles O27: LEN cuts the operand bytes off the bytes after them, and the operand is put together from them. -/
theorem decodeInvertsEncode : Obligations.DecodeInvertsEncode := by
  intro i rest
  rw [encode, List.cons_append, decode_cons_append (lenOf_opcode i), decodeBytes_opcode_operandBytes]

/-- Settles O28: the decoder keeps the opcode byte and the operand bytes that LEN reaches. -/
theorem encodeInvertsDecode : Obligations.EncodeInvertsDecode := by
  intro op b2 b3
  obtain ⟨n, hn⟩ : ∃ n, lenOf op = n + 1 := Nat.exists_eq_add_of_le' (lenOf_range op).1
  rw [encode, opcode_decodeBytes, operandBytes_decodeBytes, hn, List.take_succ_cons, Nat.add_sub_cancel]

/-- Settles O30, from the closed form of the table. -/
theorem lengthClosedForm : Obligations.LengthClosedForm :=
  fun i => ⟨length_encode i, (length_encode i).trans (lenOf_closed_form i.opcode)⟩

/-- Settles O32: every instruction completes, the event is its handler's, and the handler table is R51's list. -/
theorem fallbackBytes : Obligations.FallbackBytes := by
  intro op b2 b3 s hs
  refine ⟨_, exec_handler _ s, ?_⟩
  rw [finishAt_out, handler_raises_iff _ hs, opcode_decodeBytes]
  exact hasHandler_eq_false_iff op

/-- Settles O29: for each register operand the eight operations of group ALU-R, then those on M and on the next byte, each
read off the opcode map. -/
theorem aluOpcodeFields : Obligations.AluOpcodeFields := by
  intro b2 b3
  refine ⟨fun r => ?_, ?_⟩
  · cases r <;> exact ⟨rfl, rfl, rfl, rfl, rfl, rfl, rfl, rfl⟩
  · and_intros <;> rfl

/-- Settles O33, by running the decoder on each word. -/
theorem sampleWordsDecode : Obligations.SampleWordsDecode := by
  and_intros <;> rfl

end Sys2Proof.Proofs

/-! PROOFS. Which flags an instruction writes (40_alu_flags.md R71): the flags-to-update mask of each handler, that a handler
writes no flag outside its mask, and the statement. -/

/-! ## The flags-to-update mask -/

namespace Sys2Proof.Machine

/-- The flags a handler writes (40_alu_flags.md R71, the table by operation): all five condition bits for an accumulator
operation and DAA, Carry alone for the rotates, CMC and STC. -/
def Handler.flagMask : Handler → Byte
  | .alu _ _ | .daa => maskAll
  | .rotate _ | .cmc | .stc => maskCY
  | _ => 0

theorem not_maskAll : ~~~maskAll = 0x2A#8 := rfl

theorem not_maskCY : ~~~maskCY = 0xFE#8 := rfl

/-- The mask R71 gives an opcode byte is its handler's. -/
theorem flagMask_opcode (i : Instr) : Safety.flagMask i.opcode = (handlerOf i).flagMask := by
  cases i <;> rfl

/-- An accumulator operation, a compare among them, writes F as the five flags of one ALU result. -/
theorem AluKind.apply_f (k : AluKind) (b : Byte) (s : State) : ∃ o, (k.apply b s).f = assignAlu s.f o := by
  cases k with
  | cmp => exact ⟨_, setAluFlags_f s _⟩
  | _ => exact ⟨_, accumulate_f s _⟩

/-- A handler keeps the flags outside its mask: it writes F as an ALU result does, or Carry alone, or not at all. -/
theorem Handler.effect_flags (h : Handler) (s : State) :
    (h.effect s).f &&& ~~~h.flagMask = s.f &&& ~~~h.flagMask := by
  cases h with
  | alu k src =>
    obtain ⟨o, ho⟩ := k.apply_f (src.value s) s
    rw [Handler.effect, ho, Handler.flagMask, not_maskAll]
    exact assignAlu_unused s.f o
  | daa =>
    rw [Handler.flagMask, not_maskAll]
    exact assignAlu_unused s.f _
  | rotate | cmc | stc =>
    rw [Handler.flagMask, not_maskCY]
    exact assignCarry_rest s.f _
  | _ => rfl

end Sys2Proof.Machine

/-! ## The statement -/

namespace Sys2Proof.Proofs

open Sys2Proof.Machine

/-- Settles O17, by the handler of the instruction and its mask. -/
theorem flagsOutsideTheMaskAreKept : Obligations.FlagsOutsideTheMaskAreKept := by
  intro i s t h
  obtain rfl := exec_next h
  rw [flagMask_opcode, finishAt_f]
  exact (handlerOf i).effect_flags s

end Sys2Proof.Proofs

/-! PROOFS. Data transfer (41_data_transfer.md R75 to R81): what an instruction leaves in each part of the state, what a pair
write leaves in the registers, and the statements. -/

/-! ## What an instruction leaves in each part of the state -/

namespace Sys2Proof.Machine

open Sys2Proof.Safety

/-- Every instruction completes (48_undefined_opcode.md R141). -/
theorem exists_exec_eq_next (i : Instr) (s : State) : ∃ t, exec i s = .next t := ⟨_, exec_handler i s⟩

section
variable {i : Instr} {s t : State} (h : exec i s = .next t)
include h

/-- The end of a fetch tick writes PC and cnt alone, so registers, flags and memory are the handler's. -/
theorem exec_regs : t.regs = ((handlerOf i).effect s).regs := by
  rw [exec_next h, finishAt_regs]

theorem exec_f : t.f = ((handlerOf i).effect s).f := by
  rw [exec_next h, finishAt_f]

theorem exec_mem : t.mem = ((handlerOf i).effect s).mem := by
  rw [exec_next h, finishAt_mem]

/-- An instruction with a handler of its own leaves SP, UD and the outputs. -/
theorem exec_noEvent (hfallback : handlerOf i ≠ .fallback) : NoEvent s t := by
  obtain ⟨hsp, -⟩ := (handlerOf i).effect_inert s
  obtain ⟨hfetched, hundef, hud⟩ := (handlerOf i).effect_event s
  rw [decide_eq_false hfallback, Bool.or_false] at hundef hud
  obtain rfl := exec_next h
  exact ⟨hsp, hud, congrArg₂ Outputs.mk hfetched hundef⟩

/-- An instruction that is no jump moves PC past LEN bytes and loads CYCLES into cnt, both read at its opcode byte. -/
theorem exec_scheduled (op : Byte) {len cost : Nat} (hjmp : ∀ a16, i ≠ .jmp a16) (hop : i.opcode = op)
    (hlen : lenOf op = len) (hcost : cyclesOf op = cost) : Scheduled len cost s t := by
  obtain rfl := exec_next h
  subst hop hlen hcost
  exact ⟨nextPc_toNat s hjmp, finishAt_cnt _ _ _⟩

end

/-! ## Stores and pair writes -/

/-- Where memory is as after `MemWrite(a, 1, v)`, `MemRead(a, 1)` is `v`. -/
theorem State.read1_of_mem_eq_write1 {s t : State} {a : Word} {v : Byte} (hwf : s.mem.wf = true)
    (h : t.mem = (s.write1 a v).mem) : t.read1 a = v :=
  (State.read1_congr h a).trans (State.read1_write1_same a v hwf)

/-- Where memory is as after `MemWrite(a, 2, {hi, lo})`, `lo` is at `a` and `hi` at the next address, also where it wraps. -/
theorem State.read1_of_mem_eq_write2 {s t : State} {a : Word} {hi lo : Byte} (hwf : s.mem.wf = true)
    (h : t.mem = (s.write2 a (joinBytes hi lo)).mem) : t.read1 a = lo ∧ t.read1 (a + 1) = hi := by
  have hne : a + 1 ≠ a := by simp
  have hread (b : Word) := (State.read1_congr h b).trans (State.read1_write2 a b _ hwf)
  exact ⟨by rw [hread, if_pos rfl, lowByte_joinBytes], by rw [hread, if_neg hne, if_pos rfl, highByte_joinBytes]⟩

/-- Writing {hi, lo} to HL writes H and L (10_state.md R13). -/
theorem Regs.setPair_hl_joinBytes (r : Regs) (hi lo : Byte) :
    r.setPair .hl (joinBytes hi lo) = { r with h := hi, l := lo } := by
  rw [Regs.setPair, highByte_joinBytes, lowByte_joinBytes]

/-- Writing {hi, lo} to DE writes D and E (10_state.md R13). -/
theorem Regs.setPair_de_joinBytes (r : Regs) (hi lo : Byte) :
    r.setPair .de (joinBytes hi lo) = { r with d := hi, e := lo } := by
  rw [Regs.setPair, highByte_joinBytes, lowByte_joinBytes]

/-- XCHG exchanges H with D and L with E (41_data_transfer.md R80). -/
theorem exec_xchg_regs {s t : State} (h : exec .xchg s = .next t) :
    t.regs = { s.regs with d := s.regs.h, e := s.regs.l, h := s.regs.d, l := s.regs.e } :=
  calc t.regs
    _ = (s.regs.setPair .hl (joinBytes s.regs.d s.regs.e)).setPair .de (joinBytes s.regs.h s.regs.l) := exec_regs h
    _ = _ := by rw [Regs.setPair_hl_joinBytes, Regs.setPair_de_joinBytes]

end Sys2Proof.Machine

/-! ## The statements -/

namespace Sys2Proof.Proofs

open Sys2Proof.Machine

/-- Settles O26: LDA reads back the byte STA stored, and A, the one register written in between, gets it again. -/
theorem storeThenLoadRoundTrip : Obligations.StoreThenLoadRoundTrip := by
  intro s t u a16 v hwf ht hu
  have hread : (t.setReg .a v).read1 a16 = s.regs.a :=
    State.read1_of_mem_eq_write1 hwf (exec_mem ht)
  have hregs : u.regs = s.regs :=
    calc u.regs
      _ = (t.regs.set .a v).set .a ((t.setReg .a v).read1 a16) := exec_regs hu
      _ = (s.regs.set .a v).set .a s.regs.a := by rw [hread, exec_regs ht]; rfl
      _ = s.regs := rfl
  exact ⟨hregs, (exec_f hu).trans (exec_f ht)⟩

/-- Settles O34: the handler is one write, of d8 to the address in HL. -/
theorem mviMStoresImmediate : Obligations.MviMStoresImmediate := by
  intro d8 s hwf
  obtain ⟨t, ht⟩ := exists_exec_eq_next (.mviM d8) s
  have hread : t.read1 (addressM s) = d8 := State.read1_of_mem_eq_write1 hwf (exec_mem ht)
  exact ⟨rfl, t, ht, hread, onlyStoresChangeMemory _ s t hwf ht, exec_regs ht, exec_f ht, exec_noEvent ht nofun,
    exec_scheduled ht 0x36 nofun rfl rfl rfl⟩

/-- Settles O36: the handler is one write, of A to a16. -/
theorem staStoresAccumulator : Obligations.StaStoresAccumulator := by
  intro a16 s hwf
  obtain ⟨t, ht⟩ := exists_exec_eq_next (.sta a16) s
  have hread : t.read1 a16 = s.regs.a := State.read1_of_mem_eq_write1 hwf (exec_mem ht)
  exact ⟨rfl, t, ht, hread, onlyStoresChangeMemory _ s t hwf ht, exec_regs ht, exec_f ht, exec_noEvent ht nofun,
    exec_scheduled ht 0x32 nofun rfl rfl rfl⟩

/-- Settles O38: the handler is one two-byte write, of {H, L} to a16. -/
theorem shldStoresPair : Obligations.ShldStoresPair := by
  intro a16 s hwf
  obtain ⟨t, ht⟩ := exists_exec_eq_next (.shld a16) s
  obtain ⟨hlow, hhigh⟩ : t.read1 a16 = s.regs.l ∧ t.read1 (a16 + 1) = s.regs.h :=
    State.read1_of_mem_eq_write2 hwf (exec_mem ht)
  exact ⟨rfl, t, ht, hlow, hhigh, onlyStoresChangeMemory _ s t hwf ht, exec_regs ht, exec_f ht, exec_noEvent ht nofun,
    exec_scheduled ht 0x22 nofun rfl rfl rfl⟩

/-- Settles O35: the handler is one register write, of the byte at a16 to A. -/
theorem ldaLoadsAccumulator : Obligations.LdaLoadsAccumulator := by
  intro a16 s
  obtain ⟨t, ht⟩ := exists_exec_eq_next (.lda a16) s
  exact ⟨rfl, t, ht, exec_regs ht, exec_f ht, State.read1_congr (exec_mem ht), exec_noEvent ht nofun,
    exec_scheduled ht 0x3A nofun rfl rfl rfl⟩

/-- Settles O37: the handler is one pair write, of the two bytes at a16 to HL. -/
theorem lhldLoadsPair : Obligations.LhldLoadsPair := by
  intro a16 s
  obtain ⟨t, ht⟩ := exists_exec_eq_next (.lhld a16) s
  have hregs : t.regs = { s.regs with l := s.read1 a16, h := s.read1 (a16 + 1) } :=
    (exec_regs ht).trans (Regs.setPair_hl_joinBytes s.regs (s.read1 (a16 + 1)) (s.read1 a16))
  exact ⟨rfl, t, ht, hregs, exec_f ht, State.read1_congr (exec_mem ht), exec_noEvent ht nofun,
    exec_scheduled ht 0x2A nofun rfl rfl rfl⟩

/-- Settles O39: XCHG is an exchange of registers, and the exchange is its own inverse. -/
theorem xchgSwapsPairs : Obligations.XchgSwapsPairs := by
  intro s
  obtain ⟨t, ht⟩ := exists_exec_eq_next .xchg s
  obtain ⟨u, hu⟩ := exists_exec_eq_next .xchg t
  have htwice : u.regs = s.regs := by rw [exec_xchg_regs hu, exec_xchg_regs ht]
  exact ⟨rfl, t, ht, exec_xchg_regs ht, exec_f ht, State.read1_congr (exec_mem ht), exec_noEvent ht nofun,
    exec_scheduled ht 0xEB nofun rfl rfl rfl, u, hu, htwice⟩

end Sys2Proof.Proofs

/-! PROOFS. Arithmetic (42_arithmetic.md R85 to R98): the instructions of the groups ALU-R and ALU-I by operation and operand,
what an instruction that accumulates one ALU result leaves, the results of ADD, ADC, SUB, SBB and DAA, and the statements. -/

/-! ## The accumulator instructions by operation and operand -/

namespace Sys2Proof.Machine

open Sys2Proof.Safety

/-- The instruction of an operation and an operand (30_encoding.md R46, R47). -/
def AluKind.instr : AluKind → Source → Instr
  | .add, .reg r => .addR r
  | .add, .m => .addM
  | .add, .imm d8 => .adi d8
  | .adc, .reg r => .adcR r
  | .adc, .m => .adcM
  | .adc, .imm d8 => .aci d8
  | .sub, .reg r => .subR r
  | .sub, .m => .subM
  | .sub, .imm d8 => .sui d8
  | .sbb, .reg r => .sbbR r
  | .sbb, .m => .sbbM
  | .sbb, .imm d8 => .sbi d8
  | .ana, .reg r => .anaR r
  | .ana, .m => .anaM
  | .ana, .imm d8 => .ani d8
  | .xra, .reg r => .xraR r
  | .xra, .m => .xraM
  | .xra, .imm d8 => .xri d8
  | .ora, .reg r => .oraR r
  | .ora, .m => .oraM
  | .ora, .imm d8 => .ori d8
  | .cmp, .reg r => .cmpR r
  | .cmp, .m => .cmpM
  | .cmp, .imm d8 => .cpi d8

/-- LEN of an accumulator instruction: the opcode byte and, where the operand is immediate, its byte. -/
def Source.len : Source → Nat
  | .imm _ => 2
  | _ => 1

/-- The opcode byte of an operation on the register with operand code 0: 10_ooo_000 (30_encoding.md R46). -/
def AluKind.regBase : AluKind → Byte
  | .add => 0x80
  | .adc => 0x88
  | .sub => 0x90
  | .sbb => 0x98
  | .ana => 0xA0
  | .xra => 0xA8
  | .ora => 0xB0
  | .cmp => 0xB8

/-- The opcode byte of an operation and an operand: 10_ooo_sss, sss = 6 for M, and 11_ooo_110 (30_encoding.md R46, R48). -/
def AluKind.opcode (k : AluKind) : Source → Byte
  | .reg r => k.regBase + r.code
  | .m => k.regBase + 0b110
  | .imm _ => k.regBase + 0b01_000_110

theorem AluKind.handlerOf_instr (k : AluKind) (src : Source) : handlerOf (k.instr src) = .alu k src := by
  cases k <;> cases src with
  | reg r => cases r <;> rfl
  | m | imm d8 => rfl

theorem AluKind.opcode_instr (k : AluKind) (src : Source) : (k.instr src).opcode = k.opcode src := by
  cases k <;> cases src with
  | reg r => cases r <;> rfl
  | m | imm d8 => rfl

theorem AluKind.lenOf_opcode (k : AluKind) (src : Source) : lenOf (k.opcode src) = src.len := by
  cases src with
  | reg r => cases k <;> cases r <;> rfl
  | m => cases k <;> rfl
  | imm d8 =>
    rw [AluKind.opcode, Source.len]
    cases k <;> rfl

/-- Every accumulator instruction costs 7 ticks (49_step_scheduler.md R147). -/
theorem AluKind.cyclesOf_opcode (k : AluKind) (src : Source) : cyclesOf (k.opcode src) = 7 := by
  cases src with
  | reg r => cases k <;> cases r <;> rfl
  | m => cases k <;> rfl
  | imm d8 =>
    rw [AluKind.opcode]
    cases k <;> rfl

/-- A register operand is encoded in the low three bits of the one byte (30_encoding.md R46, R48). -/
theorem AluKind.encode_instr_reg (k : AluKind) (r : Reg) : encode (k.instr (.reg r)) = [k.regBase + r.code] := by
  cases k <;> cases r <;> rfl

theorem AluKind.instr_ne_jmp (k : AluKind) (src : Source) (a16 : Word) : k.instr src ≠ .jmp a16 := by
  intro h
  have hjmp : handlerOf (k.instr src) = .jmp a16 := congrArg handlerOf h
  rw [k.handlerOf_instr] at hjmp
  cases hjmp

/-! ## What an instruction that accumulates one ALU result leaves -/

/-- An instruction whose handler does no more than write one ALU result to A and F completes with that result, its five flags,
and everything else as before. -/
theorem completesAlu_of_effect {i : Instr} {s : State} {res : Byte} {ac cy : Bool} (op : Byte) {len cost : Nat}
    (heffect : (handlerOf i).effect s = accumulate (aluOut res ac cy) s) (hfallback : handlerOf i ≠ .fallback)
    (hjmp : ∀ a16, i ≠ .jmp a16) (hop : i.opcode = op) (hlen : lenOf op = len) (hcost : cyclesOf op = cost) :
    CompletesAlu i len cost s res ac cy := by
  obtain ⟨t, ht⟩ := exists_exec_eq_next i s
  have hregs : t.regs = { s.regs with a := res } := by rw [exec_regs ht, heffect, accumulate_regs, aluOut_res]
  have hf : t.f = assignAlu s.f (aluOut res ac cy) := by rw [exec_f ht, heffect, accumulate_f]
  have hmem : t.mem = s.mem := by rw [exec_mem ht, heffect, accumulate_mem]
  refine ⟨t, ht, hregs, ?_, ?_, State.read1_congr hmem, exec_noEvent ht hfallback,
    exec_scheduled ht op hjmp hop hlen hcost⟩
  · rw [hf]
    exact conditionBits_assignAlu s.f res ac cy
  · rw [hf]
    exact unusedBitsKept_of_and_eq (assignAlu_unused s.f _)

theorem AluKind.completesAlu_instr (k : AluKind) (src : Source) {s : State} {res : Byte} {ac cy : Bool}
    (h : k.apply (src.value s) s = accumulate (aluOut res ac cy) s) :
    CompletesAlu (k.instr src) src.len 7 s res ac cy := by
  have hi : handlerOf (k.instr src) = .alu k src := k.handlerOf_instr src
  exact completesAlu_of_effect (k.opcode src) (by rw [hi]; exact h) (by rw [hi]; exact nofun) (k.instr_ne_jmp src)
    (k.opcode_instr src) (k.lenOf_opcode src) (k.cyclesOf_opcode src)

/-! ## The results of the arithmetic operations -/

@[simp] theorem bitByte_false : bitByte false = 0#8 := rfl

theorem addAcc_eq (b : Byte) (s : State) : addAcc b s =
    accumulate (aluOut (s.regs.a + b) (halfCarry s.regs.a b false) (carryOut s.regs.a b false)) s := by
  rw [addAcc, add8_eq, bitByte_false, BitVec.add_zero]

theorem adcAcc_eq (b : Byte) (s : State) : adcAcc b s =
    accumulate (aluOut (s.regs.a + b + bitByte (carryFlag s)) (halfCarry s.regs.a b (carryFlag s))
      (carryOut s.regs.a b (carryFlag s))) s := by
  rw [adcAcc, testFlag_maskCY, add8_eq, carryFlag]

theorem subAcc_eq (b : Byte) (s : State) : subAcc b s =
    accumulate (aluOut (s.regs.a - b) (halfBorrow s.regs.a b false) (borrowOut s.regs.a b false)) s := by
  rw [subAcc, sub8_eq, bitByte_false, BitVec.sub_zero]

theorem sbbAcc_eq (b : Byte) (s : State) : sbbAcc b s =
    accumulate (aluOut (s.regs.a - b - bitByte (carryFlag s)) (halfBorrow s.regs.a b (carryFlag s))
      (borrowOut s.regs.a b (carryFlag s))) s := by
  rw [sbbAcc, testFlag_maskCY, sub8_eq, carryFlag]

/-- The decimal adjust accumulates what its DAA_FN gives for A, AC and CY, the flags read by their bit numbers. -/
theorem adjustWith_eq {fn : Byte → Bool → Bool → DaaOut} {s : State} {o : DaaOut}
    (h : fn s.regs.a (s.f.getLsbD 4) (carryFlag s) = o) :
    adjustWith fn s = accumulate (aluOut o.a o.ac o.cy) s := by
  rw [adjustWith, testFlag_maskAC, testFlag_maskCY, ← h, carryFlag]

/-- The default DAA_FN has the two properties required of every one (42_arithmetic.md R98). -/
theorem daaRequired_daaFn : DaaRequired daaFn := ⟨rfl, fun _ _ => rfl⟩

/-- With a DAA_FN that keeps a carry, DAA leaves a set Carry set. -/
theorem adjustWith_keeps_carry {fn : Byte → Bool → Bool → DaaOut} (hfn : DaaRequired fn) {s : State}
    (hcarry : carryFlag s = true) : carryFlag (adjustWith fn s) = true := by
  obtain ⟨-, hkeep⟩ := hfn
  rw [adjustWith_eq rfl, carryFlag, accumulate_f, assignAlu_getLsbD _ _ 0 (by omega), if_pos rfl, aluOut_cy, hcarry]
  exact hkeep _ _

end Sys2Proof.Machine

/-! ## The statements -/

namespace Sys2Proof.Proofs

open Sys2Proof.Machine Sys2Proof.Safety

/-- Settles O40: each form accumulates the sum of A and its operand. -/
theorem addInstructions : Obligations.AddInstructions := by
  intro s
  have h (src : Source) := AluKind.completesAlu_instr .add src (addAcc_eq (src.value s) s)
  exact ⟨fun r => ⟨AluKind.encode_instr_reg .add r, h (.reg r)⟩, ⟨rfl, h .m⟩, fun d8 => ⟨rfl, h (.imm d8)⟩⟩

/-- Settles O41: each form accumulates the sum of A, its operand and CY. -/
theorem adcInstructions : Obligations.AdcInstructions := by
  intro s
  have h (src : Source) := AluKind.completesAlu_instr .adc src (adcAcc_eq (src.value s) s)
  exact ⟨fun r => ⟨AluKind.encode_instr_reg .adc r, h (.reg r)⟩, ⟨rfl, h .m⟩, fun d8 => ⟨rfl, h (.imm d8)⟩⟩

/-- Settles O42: each form accumulates A less its operand. -/
theorem subInstructions : Obligations.SubInstructions := by
  intro s
  have h (src : Source) := AluKind.completesAlu_instr .sub src (subAcc_eq (src.value s) s)
  exact ⟨fun r => ⟨AluKind.encode_instr_reg .sub r, h (.reg r)⟩, ⟨rfl, h .m⟩, fun d8 => ⟨rfl, h (.imm d8)⟩⟩

/-- Settles O43: each form accumulates A less its operand and CY. -/
theorem sbbInstructions : Obligations.SbbInstructions := by
  intro s
  have h (src : Source) := AluKind.completesAlu_instr .sbb src (sbbAcc_eq (src.value s) s)
  exact ⟨fun r => ⟨AluKind.encode_instr_reg .sbb r, h (.reg r)⟩, ⟨rfl, h .m⟩, fun d8 => ⟨rfl, h (.imm d8)⟩⟩

/-- Settles O45: at the golden vector DAA accumulates 0x00 with both carries, and a DAA_FN with the required properties hands a
set Carry on. -/
theorem daaRequiredProperties : Obligations.DaaRequiredProperties := by
  refine ⟨daaRequired_daaFn, fun s t ha hac hcy h => ?_, fun fn hfn s => adjustWith_keeps_carry hfn⟩
  obtain ⟨hgolden, -⟩ := daaRequired_daaFn
  have hadjust : adjustWith daaFn s = accumulate (aluOut 0x00 true true) s :=
    adjustWith_eq (o := ⟨0x00, true, true⟩) (by rw [ha, hac, carryFlag, hcy, hgolden])
  have hregs : t.regs = (adjustWith daaFn s).regs := exec_regs h
  have hf : t.f = (adjustWith daaFn s).f := exec_f h
  rw [hregs, hf, hadjust]
  exact ⟨rfl, conditionBits_assignAlu s.f 0x00 true true⟩

end Sys2Proof.Proofs

/-! PROOFS. Logical operations (43_logical.md R105 to R114): what ANA, XRA and ORA accumulate, the forms of one accumulator
operation taken together, and the statements. -/

namespace Sys2Proof.Machine

open Sys2Proof.Safety

/-! ## The results of the logical operations (43_logical.md R114) -/

theorem anaAcc_eq (b : Byte) (s : State) : anaAcc b s =
    accumulate (aluOut (s.regs.a &&& b) (s.regs.a.getLsbD 3 || b.getLsbD 3) false) s := rfl

theorem xraAcc_eq (b : Byte) (s : State) : xraAcc b s = accumulate (aluOut (s.regs.a ^^^ b) false false) s := rfl

theorem oraAcc_eq (b : Byte) (s : State) : oraAcc b s = accumulate (aluOut (s.regs.a ||| b) false false) s := rfl

/-! ## The nine forms of one operation -/

/-- An operation that accumulates one ALU result of its operand does so in each of its forms: the seven registers, M and the
immediate byte. -/
theorem AluKind.completesAlu_forms (k : AluKind) {s : State} {res : Byte → Byte} {ac cy : Byte → Bool}
    (h : ∀ b, k.apply b s = accumulate (aluOut (res b) (ac b) (cy b)) s) :
    (∀ r : Reg, encode (k.instr (.reg r)) = [k.regBase + r.code] ∧
      CompletesAlu (k.instr (.reg r)) 1 7 s (res (s.regs.get r)) (ac (s.regs.get r)) (cy (s.regs.get r))) ∧
    (encode (k.instr .m) = [k.opcode .m] ∧
      CompletesAlu (k.instr .m) 1 7 s (res (byteAtHL s)) (ac (byteAtHL s)) (cy (byteAtHL s))) ∧
    (∀ d8 : Byte, encode (k.instr (.imm d8)) = [k.opcode (.imm d8), d8] ∧
      CompletesAlu (k.instr (.imm d8)) 2 7 s (res d8) (ac d8) (cy d8)) := by
  have hform (src : Source) : CompletesAlu (k.instr src) src.len 7 s (res (src.value s)) (ac (src.value s))
      (cy (src.value s)) := k.completesAlu_instr src (h (src.value s))
  refine ⟨fun r => ⟨k.encode_instr_reg r, hform (.reg r)⟩, ⟨?_, hform .m⟩, fun d8 => ⟨?_, hform (.imm d8)⟩⟩
  · cases k <;> rfl
  · cases k <;> rfl

end Sys2Proof.Machine

/-! ## The statements -/

namespace Sys2Proof.Proofs

open Sys2Proof.Machine

/-- Settles O46: each form accumulates the conjunction of A and its operand. -/
theorem anaInstructions : Obligations.AnaInstructions :=
  fun s => AluKind.completesAlu_forms .ana fun b => anaAcc_eq b s

/-- Settles O47: each form accumulates the exclusive or of A and its operand. -/
theorem xraInstructions : Obligations.XraInstructions :=
  fun s => AluKind.completesAlu_forms .xra fun b => xraAcc_eq b s

/-- Settles O48: each form accumulates the disjunction of A and its operand. -/
theorem oraInstructions : Obligations.OraInstructions :=
  fun s => AluKind.completesAlu_forms .ora fun b => oraAcc_eq b s

end Sys2Proof.Proofs

/-! PROOFS. Compare (44_compare.md R120 to R123): what a compare writes, what an instruction that compares leaves, when it sets
Z, and the statement. -/

namespace Sys2Proof.Machine

open Sys2Proof.Safety

/-- A compare writes the five flags of the difference and nothing else (44_compare.md R123). -/
theorem cmpAcc_eq (b : Byte) (s : State) : cmpAcc b s =
    setAluFlags (aluOut (s.regs.a - b) (halfBorrow s.regs.a b false) (borrowOut s.regs.a b false)) s := by
  rw [cmpAcc, sub8_eq, bitByte_false, BitVec.sub_zero]

/-- A compare in any of its forms completes with the flags of A less its operand and every register as before. -/
theorem completesCompare_cmp (src : Source) (s : State) :
    CompletesCompare (AluKind.cmp.instr src) src.len 7 s (s.regs.a - src.value s)
      (halfBorrow s.regs.a (src.value s) false) (borrowOut s.regs.a (src.value s) false) := by
  obtain ⟨t, ht⟩ := exists_exec_eq_next (AluKind.cmp.instr src) s
  have hi : handlerOf (AluKind.cmp.instr src) = .alu .cmp src := AluKind.cmp.handlerOf_instr src
  have heffect : (handlerOf (AluKind.cmp.instr src)).effect s = setAluFlags (aluOut (s.regs.a - src.value s)
      (halfBorrow s.regs.a (src.value s) false) (borrowOut s.regs.a (src.value s) false)) s := by
    rw [hi]
    exact cmpAcc_eq (src.value s) s
  have hregs : t.regs = s.regs := by rw [exec_regs ht, heffect, setAluFlags_regs]
  have hmem : t.mem = s.mem := by rw [exec_mem ht, heffect, setAluFlags_mem]
  refine ⟨t, ht, hregs, ?_, ?_, State.read1_congr hmem, exec_noEvent ht (by rw [hi]; exact nofun),
    exec_scheduled ht (AluKind.cmp.opcode src) (AluKind.cmp.instr_ne_jmp src) (AluKind.cmp.opcode_instr src)
      (AluKind.cmp.lenOf_opcode src) (AluKind.cmp.cyclesOf_opcode src)⟩
  · rw [exec_f ht, heffect, setAluFlags_f]
    exact conditionBits_assignAlu s.f _ _ _
  · rw [exec_f ht, heffect, setAluFlags_f]
    exact unusedBitsKept_of_and_eq (assignAlu_unused s.f _)

/-- A compare sets Z exactly when A equals its operand: the difference mod 256 is zero then and only then. -/
theorem exec_cmp_zero_iff {src : Source} {s t : State} (h : exec (AluKind.cmp.instr src) s = .next t) :
    t.f.getLsbD 6 = true ↔ s.regs.a = src.value s := by
  obtain ⟨u, hu, -, ⟨-, hzero, -⟩, -⟩ := completesCompare_cmp src s
  obtain rfl : t = u := by rw [exec_next h, exec_next hu]
  have hdiff : (s.regs.a - src.value s).toNat = 0 ↔ s.regs.a = src.value s :=
    (BitVec.toNat_inj (y := 0)).trans sub_eq_zero
  rw [hzero, decide_eq_true_iff, hdiff]

end Sys2Proof.Machine

/-! ## The statement -/

namespace Sys2Proof.Proofs

open Sys2Proof.Machine

/-- Settles O49: each form writes the flags of A less its operand, and Z tells whether the two are equal. -/
theorem compareInstructions : Obligations.CompareInstructions := by
  intro s
  exact ⟨fun r => ⟨AluKind.encode_instr_reg .cmp r, completesCompare_cmp (.reg r) s⟩, ⟨rfl, completesCompare_cmp .m s⟩,
    fun d8 => ⟨rfl, completesCompare_cmp (.imm d8) s, fun _ => exec_cmp_zero_iff (src := .imm d8)⟩⟩

end Sys2Proof.Proofs

/-! PROOFS. Rotate (45_rotate.md R125 to R129): what an instruction that writes A and Carry alone leaves, the results of the
four rotates and which of them undo each other, and the statements. -/

namespace Sys2Proof.Machine

open Sys2Proof.Safety

/-! ## What an instruction that writes A and Carry alone leaves -/

/-- An instruction whose handler does no more than write A and Carry completes with them, and everything else as before. -/
theorem completesCarry_of_effect {i : Instr} {s : State} {a : Byte} {carry : Bool} (op : Byte)
    (heffect : (handlerOf i).effect s = setCarry carry (s.setReg .a a)) (hfallback : handlerOf i ≠ .fallback)
    (hjmp : ∀ a16, i ≠ .jmp a16) (hop : i.opcode = op) (hlen : lenOf op = 1) (hcost : cyclesOf op = 4) :
    CompletesCarry i s a carry := by
  obtain ⟨t, ht⟩ := exists_exec_eq_next i s
  have hregs : t.regs = { s.regs with a := a } := by rw [exec_regs ht, heffect, setCarry_regs, State.setReg_regs, Regs.set]
  have hf : t.f = assignFlag s.f maskCY carry := by rw [exec_f ht, heffect, setCarry_f, State.setReg_f]
  have hmem : t.mem = s.mem := by rw [exec_mem ht, heffect, setCarry_mem, State.setReg_mem]
  refine ⟨t, ht, hregs, ?_, ?_, State.read1_congr hmem, exec_noEvent ht hfallback,
    exec_scheduled ht op hjmp hop hlen hcost⟩
  · rw [hf, setCarry_getLsbD _ _ 0 (by omega), if_pos rfl]
  · rw [hf]
    exact assignCarry_rest s.f carry

/-- A flag byte put together again from its Carry bit and the other seven. -/
theorem assignCarry_rest_getLsbD_zero (f : Byte) : assignFlag (f &&& 0xFE#8) maskCY (f.getLsbD 0) = f := by
  apply BitVec.eq_of_getLsbD_eq
  intro i hi
  rw [setCarry_getLsbD _ _ i hi, BitVec.getLsbD_and]
  interval_cases i <;> simp

theorem eq_of_carry_eq_of_rest_eq {f g : Byte} (hcarry : f.getLsbD 0 = g.getLsbD 0)
    (hrest : f &&& 0xFE#8 = g &&& 0xFE#8) : f = g := by
  rw [← assignCarry_rest_getLsbD_zero f, ← assignCarry_rest_getLsbD_zero g, hcarry, hrest]

/-! ## The rotates as instructions -/

/-- The instruction of a rotate. -/
def RotateKind.instr : RotateKind → Instr
  | .rlc => .rlc
  | .rrc => .rrc
  | .ral => .ral
  | .rar => .rar

theorem RotateKind.handlerOf_instr (k : RotateKind) : handlerOf k.instr = .rotate k := by
  cases k <;> rfl

theorem RotateKind.instr_ne_jmp (k : RotateKind) (a16 : Word) : k.instr ≠ .jmp a16 := by
  cases k <;> exact nofun

theorem RotateKind.lenOf_opcode (k : RotateKind) : lenOf k.instr.opcode = 1 := by
  cases k <;> rfl

/-- Every rotate costs 4 ticks (49_step_scheduler.md R147). -/
theorem RotateKind.cyclesOf_opcode (k : RotateKind) : cyclesOf k.instr.opcode = 4 := by
  cases k <;> rfl

/-- A rotate writes what `RotateKind.value` makes of A and the old Carry. -/
theorem RotateKind.effect_eq (k : RotateKind) (s : State) : (Handler.rotate k).effect s =
    setCarry (k.value s.regs.a (carryFlag s)).2 (s.setReg .a (k.value s.regs.a (carryFlag s)).1) := by
  rw [Handler.effect, testFlag_maskCY, carryFlag]

theorem RotateKind.completesCarry_instr (k : RotateKind) (s : State) :
    CompletesCarry k.instr s (k.value s.regs.a (carryFlag s)).1 (k.value s.regs.a (carryFlag s)).2 := by
  have hi : handlerOf k.instr = .rotate k := k.handlerOf_instr
  exact completesCarry_of_effect k.instr.opcode (by rw [hi, k.effect_eq]) (by rw [hi]; exact nofun) k.instr_ne_jmp rfl
    k.lenOf_opcode k.cyclesOf_opcode

/-! ## The results of the rotates -/

/-- {hi, lo} bit by bit: `lo` at bit 0, `hi` above it. -/
theorem joinLow_getLsbD (hi : BitVec 7) (lo : Bool) (i : Nat) :
    (joinLow hi lo).getLsbD i = if i = 0 then lo else hi.getLsbD (i - 1) := by
  rw [joinLow, BitVec.getLsbD_append]
  cases i <;> simp

/-- {hi, lo} bit by bit: `hi` at bit 7, `lo` below it. -/
theorem joinHigh_getLsbD (hi : Bool) (lo : BitVec 7) (i : Nat) (h : i < 8) :
    (joinHigh hi lo).getLsbD i = if i = 7 then hi else lo.getLsbD i := by
  rw [joinHigh, BitVec.getLsbD_append]
  interval_cases i <;> simp

/-- {a[6:0], c} is the byte shifted left, with `c` moved in. -/
theorem joinLow_eq_shiftLeft (a : Byte) (c : Bool) : joinLow (a.extractLsb' 0 7) c = (a <<< 1) ||| bitByte c := by
  apply BitVec.eq_of_getLsbD_eq
  intro i hi
  rw [joinLow_getLsbD]
  cases c <;> interval_cases i <;> simp [bitByte]

/-- {c, a[7:1]} is the byte shifted right, with `c` moved in. -/
theorem joinHigh_eq_shiftRight (a : Byte) (c : Bool) :
    joinHigh c (a.extractLsb' 1 7) = (a >>> 1) ||| (bitByte c <<< 7) := by
  apply BitVec.eq_of_getLsbD_eq
  intro i hi
  rw [joinHigh_getLsbD _ _ i hi]
  cases c <;> interval_cases i <;> simp [bitByte]

/-- {a[6:0], a[7]} is the byte rotated left. -/
theorem joinLow_eq_rotateLeft (a : Byte) : joinLow (a.extractLsb' 0 7) (a.getLsbD 7) = a.rotateLeft 1 := by
  apply BitVec.eq_of_getLsbD_eq
  intro i hi
  rw [joinLow_getLsbD, BitVec.getLsbD_rotateLeft]
  interval_cases i <;> simp

/-- {a[0], a[7:1]} is the byte rotated right. -/
theorem joinHigh_eq_rotateRight (a : Byte) : joinHigh (a.getLsbD 0) (a.extractLsb' 1 7) = a.rotateRight 1 := by
  apply BitVec.eq_of_getLsbD_eq
  intro i hi
  rw [joinHigh_getLsbD _ _ i hi, BitVec.getLsbD_rotateRight]
  interval_cases i <;> simp

/-! ## Which rotates undo each other -/

theorem joinLow_getLsbD_zero (hi : BitVec 7) (lo : Bool) : (joinLow hi lo).getLsbD 0 = lo := joinLow_getLsbD hi lo 0

theorem joinLow_extractLsb' (hi : BitVec 7) (lo : Bool) : (joinLow hi lo).extractLsb' 1 7 = hi := by
  apply BitVec.eq_of_getLsbD_eq
  intro i h
  rw [BitVec.getLsbD_extractLsb', joinLow_getLsbD, if_neg (by omega), Nat.add_sub_cancel_left]
  simp [h]

theorem joinHigh_getLsbD_extractLsb' (a : Byte) : joinHigh (a.getLsbD 7) (a.extractLsb' 0 7) = a := by
  apply BitVec.eq_of_getLsbD_eq
  intro i hi
  rw [joinHigh_getLsbD _ _ i hi]
  interval_cases i <;> simp

/-- RRC after RLC, whatever CY is: the bit that moved round moves back, and is the Carry. -/
theorem RotateKind.value_rrc_value_rlc (a : Byte) (c c' : Bool) :
    RotateKind.rrc.value (RotateKind.rlc.value a c).1 c' = (a, a.getLsbD 7) := by
  rw [RotateKind.value, RotateKind.value, joinLow_getLsbD_zero, joinLow_extractLsb', joinHigh_getLsbD_extractLsb']

/-- RAR after RAL: the nine bits {CY, A} are as before. -/
theorem RotateKind.value_rar_value_ral (a : Byte) (c : Bool) :
    RotateKind.rar.value (RotateKind.ral.value a c).1 (RotateKind.ral.value a c).2 = (a, c) := by
  rw [RotateKind.value, RotateKind.value, joinLow_getLsbD_zero, joinLow_extractLsb', joinHigh_getLsbD_extractLsb']

/-- Two rotates in turn, the second of which gives A back: the registers and every flag but Carry are as before. -/
theorem RotateKind.exec_instr_exec_instr {k k' : RotateKind} {s : State} {carry : Bool}
    (h : k'.value (k.value s.regs.a (carryFlag s)).1 (k.value s.regs.a (carryFlag s)).2 = (s.regs.a, carry)) :
    ∃ t u, exec k.instr s = .next t ∧ exec k'.instr t = .next u ∧ u.regs = s.regs ∧ u.f.getLsbD 0 = carry ∧
      u.f &&& 0xFE = s.f &&& 0xFE := by
  obtain ⟨t, ht, htregs, htcarry, htrest, -⟩ := k.completesCarry_instr s
  obtain ⟨u, hu, huregs, hucarry, hurest, -⟩ := k'.completesCarry_instr t
  have hta : t.regs.a = (k.value s.regs.a (carryFlag s)).1 := by rw [htregs]
  have htc : carryFlag t = (k.value s.regs.a (carryFlag s)).2 := htcarry
  rw [hta, htc, h] at huregs hucarry
  exact ⟨t, u, ht, hu, by rw [huregs, htregs], hucarry, hurest.trans htrest⟩

end Sys2Proof.Machine

/-! ## The statements -/

namespace Sys2Proof.Proofs

open Sys2Proof.Machine Sys2Proof.Safety

/-- Settles O50: each rotate writes its two values, which are those of the shift or rotation of the byte. -/
theorem rotateInstructions : Obligations.RotateInstructions := by
  intro s
  rw [← joinLow_eq_rotateLeft, ← joinHigh_eq_rotateRight, ← joinLow_eq_shiftLeft, ← joinHigh_eq_shiftRight]
  exact ⟨⟨rfl, RotateKind.rlc.completesCarry_instr s⟩, ⟨rfl, RotateKind.rrc.completesCarry_instr s⟩,
    ⟨rfl, RotateKind.ral.completesCarry_instr s⟩, ⟨rfl, RotateKind.rar.completesCarry_instr s⟩⟩

/-- Settles O51: RRC gives back the A that RLC rotated, and RAR the nine bits {CY, A} that RAL rotated. -/
theorem rotatesUndoEachOther : Obligations.RotatesUndoEachOther := by
  intro s
  obtain ⟨t, u, ht, hu, hregs, -⟩ := RotateKind.exec_instr_exec_instr (s := s) (RotateKind.value_rrc_value_rlc _ _ _)
  obtain ⟨v, w, hv, hw, hregs', hcarry, hrest⟩ :=
    RotateKind.exec_instr_exec_instr (RotateKind.value_rar_value_ral s.regs.a (carryFlag s))
  exact ⟨⟨t, u, ht, hu, hregs⟩, v, w, hv, hw, hregs', eq_of_carry_eq_of_rest_eq hcarry hrest⟩

end Sys2Proof.Proofs

/-! PROOFS. Complement and carry (46_complement_carry.md R130 to R133): CMA, CMC and STC as writes of A and Carry, and the
statement. -/

namespace Sys2Proof.Machine

open Sys2Proof.Safety

/-- Carry written back to where it was read leaves F as it is. -/
theorem assignCarry_getLsbD_zero (f : Byte) : assignFlag f maskCY (f.getLsbD 0) = f :=
  eq_of_carry_eq_of_rest_eq (by rw [setCarry_getLsbD _ _ 0 (by omega), if_pos rfl]) (assignCarry_rest f _)

theorem setCarry_carryFlag (s : State) : setCarry (carryFlag s) s = s :=
  congrArg s.setF (assignCarry_getLsbD_zero s.f)

/-- CMA writes the inverted A and, of F, no more than the Carry it already has (46_complement_carry.md R130). -/
theorem Handler.cma_effect_eq (s : State) :
    Handler.cma.effect s = setCarry (carryFlag s) (s.setReg .a (~~~s.regs.a)) := by
  have hinvert : s.regs.a ^^^ 0xFF = ~~~s.regs.a := BitVec.xor_allOnes
  calc Handler.cma.effect s
    _ = s.setReg .a (~~~s.regs.a) := by rw [Handler.effect, hinvert]
    _ = setCarry (carryFlag s) (s.setReg .a (~~~s.regs.a)) := (setCarry_carryFlag (s.setReg .a (~~~s.regs.a))).symm

/-- CMC writes the inverted Carry and, of the registers, no more than the A it already has (46_complement_carry.md R131). -/
theorem Handler.cmc_effect_eq (s : State) :
    Handler.cmc.effect s = setCarry (!carryFlag s) (s.setReg .a s.regs.a) := by
  rw [Handler.effect, testFlag_maskCY]
  rfl

end Sys2Proof.Machine

/-! ## The statement -/

namespace Sys2Proof.Proofs

open Sys2Proof.Machine

/-- Settles O52: each of the three is one write of A and Carry, in which CMA keeps Carry, and CMC and STC keep A. -/
theorem complementAndCarryInstructions : Obligations.ComplementAndCarryInstructions := by
  intro s
  exact ⟨⟨rfl, completesCarry_of_effect 0x2F (Handler.cma_effect_eq s) nofun nofun rfl rfl rfl⟩,
    ⟨rfl, completesCarry_of_effect 0x3F (Handler.cmc_effect_eq s) nofun nofun rfl rfl rfl⟩,
    ⟨rfl, completesCarry_of_effect 0x37 rfl nofun nofun rfl rfl rfl⟩⟩

end Sys2Proof.Proofs

/-! PROOFS. Control transfer (47_jump.md R135): the fetch tick of a JMP, the ten ticks of a JMP to its own address, and the
statements. -/

namespace Sys2Proof.Machine

open Sys2Proof.Safety

/-- What a fetch gives depends on PC and memory alone. -/
theorem fetch_congr {s t : State} (hpc : t.pc = s.pc) (hmem : t.mem = s.mem) : fetch t = fetch s := by
  simp only [fetch, hpc, State.read1_congr hmem]

/-- JMP writes PC and cnt, and nothing else (47_jump.md R135). -/
theorem exec_jmp (a16 : Word) (s : State) : exec (.jmp a16) s = .next (finishAt 0xC3 a16 s) := exec_handler (.jmp a16) s

/-- JMP costs 10 ticks (49_step_scheduler.md R147). -/
theorem finishAt_jmp_cnt (a16 : Word) (s : State) : (finishAt 0xC3 a16 s).cnt = 10 := rfl

/-- A fetch tick at JMP: PC is the operand, cnt the cost, and the rest is as the start of the tick leaves it. -/
theorem step_of_ready_jmp {s : State} {a16 : Word} (hready : s.cnt ≤ 1) (hfetch : fetch s = .jmp a16) :
    step s = .next (finishAt 0xC3 a16 (beginFetch (countDown s))) := by
  rw [step_of_ready hready, hfetch, exec_jmp]

/-- A number of ticks that brings a state back does so any number of times over. -/
theorem ticks_mul_of_period {s : State} {k : Nat} (h : ticks k s = .next s) (n : Nat) : ticks (k * n) s = .next s := by
  induction n with
  | zero => exact ticks_zero s
  | succ n ih => rw [Nat.mul_succ, ticks_add _ _ ih, h]

/-- From the end of a fetch tick of cost 10 at a JMP to its own address: nine busy ticks, then the same fetch tick again. -/
theorem ticks_ten_of_self_jmp {t : State} (hcnt : t.cnt = 10) (hout : t.out = { fetched := true, undef := false })
    (hfetch : fetch t = .jmp t.pc) : ticks 10 t = .next t := by
  have hbusy : ticks 9 t = .next { t with cnt := 1, out := { fetched := false, undef := false } } := by
    rw [ticks_busy 8 t (by omega), hcnt]
    rfl
  have hagain : step { t with cnt := 1, out := { fetched := false, undef := false } } = .next t :=
    calc step { t with cnt := 1, out := { fetched := false, undef := false } }
      _ = .next { t with cnt := 10, out := { fetched := true, undef := false } } :=
        step_of_ready_jmp (Int.le_refl 1) hfetch
      _ = .next t := by rw [← hcnt, ← hout]
  rw [ticks_add 9 1 hbusy, ticks_succ 0 hagain, ticks_zero]

end Sys2Proof.Machine

/-! ## The statements -/

namespace Sys2Proof.Proofs

open Sys2Proof.Machine

/-- Settles O54: the fetch tick writes PC to where it was, and from its end ten ticks are a period. -/
theorem jumpToSelfLoops : Obligations.JumpToSelfLoops := by
  intro s t hready hfetch h
  rw [step_of_ready_jmp hready hfetch] at h
  injection h with h
  subst h
  have hfetch' : fetch (finishAt 0xC3 s.pc (beginFetch (countDown s))) = .jmp s.pc := (fetch_congr rfl rfl).trans hfetch
  exact ⟨rfl, rfl, rfl, rfl, ticks_mul_of_period (ticks_ten_of_self_jmp (finishAt_jmp_cnt _ _) rfl hfetch')⟩

/-- Settles O53: the state after JMP differs in PC, which is the operand, and in cnt. -/
theorem jmpLoadsPc : Obligations.JmpLoadsPc := by
  intro a16 s
  exact ⟨rfl, _, exec_jmp a16 s, rfl, finishAt_jmp_cnt a16 s, rfl, rfl, State.read1_congr rfl, rfl, rfl, rfl⟩

end Sys2Proof.Proofs

/-! PROOFS. The scheduler (49_step_scheduler.md R143 to R149; 70_reset_and_hazards.md R177): when a tick fetches, that no
instruction reads the counter, one instruction as the fetch tick of a ready state, the ticks up to the next fetch, the cycle table
in closed form, and the statements. -/

namespace Sys2Proof.Machine

open Sys2Proof.Safety

/-! ## When a tick fetches -/

/-- A tick is a fetch tick exactly when the counter is at most 1 before it (49_step_scheduler.md R144). -/
theorem step_fetched_iff {s t : State} (h : step s = .next t) : t.out.fetched = true ↔ s.cnt ≤ 1 := by
  obtain ⟨hbusy, rfl⟩ | ⟨hready, rfl⟩ := step_cases h
  · simp [hbusy]
  · obtain ⟨hfetched, -, -⟩ := (handlerOf (fetch s)).effect_event (beginFetch (countDown s))
    exact iff_of_true hfetched hready

/-! ## No instruction reads the counter -/

/-- A handler passes the counter through. -/
theorem Handler.effect_withCnt (h : Handler) (s : State) (n : Int) :
    h.effect { s with cnt := n } = { h.effect s with cnt := n } := by
  cases h with
  | alu k src => cases k <;> cases src <;> rfl
  | _ => rfl

/-- The end of a fetch tick overwrites the counter that the handler passed through. -/
theorem exec_withCnt (i : Instr) (s : State) (n : Int) : exec i { s with cnt := n } = exec i s := by
  rw [exec_handler, exec_handler, Handler.effect_withCnt, Handler.nextPc_congr (s := s) _ _ rfl]
  rfl

/-! ## One instruction without its timing -/

theorem step_withCnt_zero (s : State) : step { s with cnt := 0 } = .next (instrStep s) := by
  obtain ⟨t, ht⟩ := exists_step_eq_next { s with cnt := 0 }
  rw [instrStep, ht]

/-- A fetch tick is one instruction without its timing: it finds the same bytes, and does not read the counter. -/
theorem step_of_ready_eq_instrStep {s : State} (h : s.cnt ≤ 1) : step s = .next (instrStep s) := by
  have hfetch : fetch { s with cnt := 0 } = fetch s := fetch_congr rfl rfl
  rw [← step_withCnt_zero, step_of_ready h, step_of_ready (s := { s with cnt := 0 }) zero_le_one, hfetch]
  exact (exec_withCnt (fetch s) (beginFetch (countDown s)) (0 - 1)).symm

/-- One instruction is the handler's effect from the start of a fetch tick, then PC and the cost. -/
theorem instrStep_eq (s : State) : instrStep s =
    finishAt (fetch s).opcode ((handlerOf (fetch s)).nextPc (fetch s).opcode s)
      ((handlerOf (fetch s)).effect (beginFetch (countDown { s with cnt := 0 }))) := by
  obtain ⟨hbusy, -⟩ | ⟨-, h⟩ := step_cases (step_withCnt_zero s)
  · exact absurd hbusy (not_lt_of_ge zero_le_one)
  · exact h

@[simp] theorem instrStep_fetched (s : State) : (instrStep s).out.fetched = true :=
  (step_fetched_iff (step_withCnt_zero s)).2 zero_le_one

/-- One instruction loads the cost of the opcode at PC (49_step_scheduler.md R143). -/
theorem instrStep_cnt (s : State) : (instrStep s).cnt = cyclesOf (s.read1 s.pc) := by
  rw [instrStep_eq, finishAt_cnt, fetch_opcode, Int.ofNat_eq_natCast]

/-- One instruction that is no jump moves PC past the LEN bytes of the opcode at PC (10_state.md R18). -/
theorem instrStep_pc_toNat {s : State} (hjmp : ∀ a16, fetch s ≠ .jmp a16) :
    (instrStep s).pc.toNat = (s.pc.toNat + lenOf (s.read1 s.pc)) % 65536 := by
  rw [instrStep_eq, finishAt_pc, nextPc_toNat s hjmp, fetch_opcode]

/-- A busy tick before an instruction changes nothing the instruction reads. -/
theorem instrStep_countDown (s : State) : instrStep (countDown s) = instrStep s := by
  rw [instrStep_eq, instrStep_eq]
  rfl

/-! ## From one fetch tick to the next -/

/-- While fewer ticks have passed than the counter says, they have only counted down and cleared the outputs
(49_step_scheduler.md R148). -/
theorem ticks_of_lt_cnt {t : State} {k : Nat} (hpos : 1 ≤ k) (hlt : (k : Int) < t.cnt) :
    ticks k t = .next { t with cnt := t.cnt - k, out := { fetched := false, undef := false } } := by
  obtain ⟨j, rfl⟩ := Nat.exists_eq_add_of_le' hpos
  exact ticks_busy j t hlt

/-- The tick that the counter says is the next instruction, from the state in which the counter was loaded. -/
theorem ticks_of_eq_cnt {t : State} {c : Nat} (hpos : 1 ≤ c) (hcnt : t.cnt = c) : ticks c t = .next (instrStep t) := by
  induction c, hpos using Nat.le_induction generalizing t with
  | base =>
    have hready : t.cnt ≤ 1 := hcnt.le
    rw [ticks_succ 0 (step_of_ready_eq_instrStep hready), ticks_zero]
  | succ c hpos ih =>
    have hbusy : 1 < t.cnt := by omega
    have hcnt' : (countDown t).cnt = c := by rw [countDown_cnt, hcnt, Nat.cast_succ, add_sub_cancel_right]
    rw [ticks_succ c (step_of_busy hbusy), ih hcnt', instrStep_countDown]

/-- After one instruction, as many ticks as its cost run the next one. -/
theorem ticks_cost_instrStep (s : State) :
    ticks (cyclesOf (s.read1 s.pc)) (instrStep s) = .next (instrStep (instrStep s)) := by
  have hcost := cyclesOf_range (s.read1 s.pc)
  exact ticks_of_eq_cnt (by omega) (instrStep_cnt s)

/-! ## Runs of instructions -/

/-- The last of `k + 1` instructions, after the first `k`. -/
theorem instrRun_succ_last (k : Nat) (s : State) : instrRun (k + 1) s = instrStep (instrRun k s) := by
  induction k generalizing s with
  | zero => rfl
  | succ k ih => exact ih (instrStep s)

/-- The fetch tick of instruction `k + 1` comes after that of instruction `k` by the cost of the latter. -/
theorem fetchTickNumber_succ_last (k : Nat) (s : State) :
    fetchTickNumber (k + 1) s = fetchTickNumber k s + cyclesOf ((instrRun k s).read1 (instrRun k s).pc) := by
  induction k generalizing s with
  | zero => exact Nat.add_comm _ _
  | succ k ih => exact (congrArg _ (ih (instrStep s))).trans (Nat.add_assoc _ _ _).symm

/-- From a ready state, the tick on which instruction `k` is fetched leaves what `k + 1` instructions without timing leave. -/
theorem ticks_fetchTickNumber {s : State} (hready : s.cnt ≤ 1) (k : Nat) :
    ticks (fetchTickNumber k s) s = .next (instrRun (k + 1) s) := by
  induction k with
  | zero => exact (ticks_succ 0 (step_of_ready_eq_instrStep hready)).trans (ticks_zero _)
  | succ k ih =>
    rw [fetchTickNumber_succ_last, ticks_add _ _ ih, instrRun_succ_last k, instrRun_succ_last (k + 1),
      instrRun_succ_last k, ticks_cost_instrStep]

/-! ## The cycle table -/

/-- CYCLES by the groups of opcode bytes of 49_step_scheduler.md R147. -/
theorem cyclesOf_closed_form : ∀ op : Byte, (cyclesOf op : Int) =
    if op.toNat ∈ [0x36, 0xC3] then 10
    else if op.toNat ∈ [0x3A, 0x32] then 13
    else if op.toNat ∈ [0x2A, 0x22] then 16
    else if (0x80 ≤ op.toNat ∧ op.toNat ≤ 0xBF) ∨
        op.toNat ∈ [0xC6, 0xCE, 0xD6, 0xDE, 0xE6, 0xEE, 0xF6, 0xFE] then 7
    else 4 := by
  decide

end Sys2Proof.Machine

/-! ## The statements -/

namespace Sys2Proof.Proofs

open Sys2Proof.Machine Sys2Proof.Safety

/-- Settles O10: each instruction after the first comes on the tick that the cost before it says. -/
theorem ticksRefineInstructionRun : Obligations.TicksRefineInstructionRun :=
  fun k _ hready => ticks_fetchTickNumber hready k

/-- Settles O8: a fetch tick is one instruction, and the counter it loads says how many ticks follow. -/
theorem pacingLaw : Obligations.PacingLaw := by
  intro s hready
  refine ⟨instrStep s, step_of_ready_eq_instrStep hready, instrStep_fetched s, instrStep_cnt s, fun k hpos hlt => ?_,
    instrStep (instrStep s), ticks_cost_instrStep s, instrStep_fetched _⟩
  refine ticks_of_lt_cnt hpos ?_
  rw [instrStep_cnt]
  exact Int.ofNat_lt.2 hlt

/-- Settles O9: nine busy ticks, then one instruction. -/
theorem tenCycleInstructionTiming : Obligations.TenCycleInstructionTiming := by
  intro s hready hten
  have hcnt : (instrStep s).cnt = 10 := by rw [instrStep_cnt, hten]; rfl
  refine ⟨instrStep s, step_of_ready_eq_instrStep hready, fun k hpos hle => ?_, instrStep (instrStep s), ?_,
    instrStep_fetched _, instrStep_pc_toNat⟩
  · exact ⟨_, ticks_of_lt_cnt hpos (by omega), rfl, rfl⟩
  · rw [← hten, ticks_cost_instrStep]

/-- Settles O6, by the two kinds of tick. -/
theorem fetchTickExactlyWhenReady : Obligations.FetchTickExactlyWhenReady := fun _ _ => step_fetched_iff

/-- Settles O7: a busy tick counts down, and at a fetch tick every instruction completes. -/
theorem tickIsTotal : Obligations.TickIsTotal := exists_step_eq_next

/-- Settles O11: the handler passes the counter through and the end of the fetch tick overwrites it. -/
theorem noEffectDependsOnCounter : Obligations.NoEffectDependsOnCounter := exec_withCnt

/-- Settles O4: the two branches of the tick, at the rule's own test of the decremented counter. -/
theorem tickRunsTheDecodedInstruction : Obligations.TickRunsTheDecodedInstruction := by
  intro s
  refine ⟨fun hbusy => step_of_busy (by omega), fun hready i hdecode _ => ?_⟩
  rw [step_of_ready (by omega), fetch, hdecode]
  rfl

/-- Settles O31: the counter after an instruction is the entry of its opcode byte in the table. -/
theorem cycleTable : Obligations.CycleTable := by
  intro i s
  have hcost := cyclesOf_range i.opcode
  refine ⟨_, exec_handler i s, ?_⟩
  rw [finishAt_cnt, Int.ofNat_eq_natCast]
  exact ⟨by omega, by omega, cyclesOf_closed_form i.opcode⟩

end Sys2Proof.Proofs

/-! PROOFS. The undefined opcode (48_undefined_opcode.md R138 to R140; 60_exceptions.md R156): what a tick leaves in UD and the
outputs, the fallback as an instruction, the fault reading of a tick, and the statements. -/

namespace Sys2Proof.Machine

open Sys2Proof.Safety

/-! ## The fallback as an instruction -/

/-- A fetch selects the fallback exactly when the byte at PC is one without a handler (30_encoding.md R51). -/
theorem handlerOf_fetch_eq_fallback_iff (s : State) :
    handlerOf (fetch s) = .fallback ↔ isFallback (s.read1 s.pc) = true := by
  rw [handlerOf_fallback, Instr.catalogued, fetch_opcode, isFallback, Bool.not_eq_true']

/-- The fallback passes over one byte in four ticks (48_undefined_opcode.md R138). -/
theorem lenOf_cyclesOf_of_fallback {i : Instr} (h : handlerOf i = .fallback) : lenOf i.opcode = 1 ∧ cyclesOf i.opcode = 4 :=
  fallback_len_cycles i.opcode ((handlerOf_fallback i).1 h)

theorem ne_jmp_of_fallback {i : Instr} (h : handlerOf i = .fallback) (a16 : Word) : i ≠ .jmp a16 := by
  rintro rfl
  cases h

/-- An instruction without a handler has no operand, so it is encoded in its opcode byte alone. -/
theorem encode_of_fallback {i : Instr} (h : handlerOf i = .fallback) : encode i = [i.opcode] := by
  obtain ⟨hlen, -⟩ := lenOf_cyclesOf_of_fallback h
  have hoperands : i.operandBytes = [] := List.length_eq_zero_iff.1 (by have := lenOf_opcode i; omega)
  rw [encode, hoperands]

theorem effect_of_fallback {i : Instr} (h : handlerOf i = .fallback) (s : State) :
    (handlerOf i).effect s = raiseUndefinedOpcode s := by
  rw [h, Handler.effect]

/-- The fallback raises the event, then PC and the cost (48_undefined_opcode.md R138). -/
theorem exec_of_fallback {i : Instr} (h : handlerOf i = .fallback) (s : State) :
    exec i s = .next (finishAt i.opcode ((handlerOf i).nextPc i.opcode s) (raiseUndefinedOpcode s)) := by
  rw [exec_handler, effect_of_fallback h]

/-- A fallback leaves PC just past the byte it was fetched from (60_exceptions.md R156). -/
theorem nextPc_sub_one_of_fallback {i : Instr} (h : handlerOf i = .fallback) (s : State) :
    (handlerOf i).nextPc i.opcode s - 1 = s.pc := by
  obtain ⟨hlen, -⟩ := lenOf_cyclesOf_of_fallback h
  rw [handlerOf_nextPc s (ne_jmp_of_fallback h), hlen]
  exact BitVec.add_sub_cancel s.pc 1

/-! ## What a tick leaves in UD and the outputs -/

/-- The output `undef` is 1 exactly on a fetch tick at a byte without a handler (48_undefined_opcode.md R139 a). -/
theorem step_undef_iff {s t : State} (h : step s = .next t) :
    t.out.undef = true ↔ s.cnt ≤ 1 ∧ isFallback (s.read1 s.pc) = true := by
  obtain ⟨hbusy, rfl⟩ | ⟨hready, rfl⟩ := step_cases h
  · simp [hbusy]
  · obtain ⟨-, hraised, -⟩ := (handlerOf (fetch s)).effect_event (beginFetch (countDown s))
    rw [finishAt_out, hraised, ← handlerOf_fetch_eq_fallback_iff]
    simp [hready]

/-- UD is set on the tick that raises `undef`, and kept by every other (48_undefined_opcode.md R139 b). -/
theorem step_ud_iff {s t : State} (h : step s = .next t) : t.ud = true ↔ s.ud = true ∨ t.out.undef = true := by
  obtain ⟨-, rfl⟩ | ⟨-, rfl⟩ := step_cases h
  · simp
  · obtain ⟨-, hraised, hud⟩ := (handlerOf (fetch s)).effect_event (beginFetch (countDown s))
    rw [finishAt_out, finishAt_ud, hraised, hud]
    simp

/-- A tick that raises `undef` leaves memory, and PC just past the byte that raised it. -/
theorem step_mem_pc_of_undef {s t : State} (h : step s = .next t) (hundef : t.out.undef = true) :
    t.mem = s.mem ∧ t.pc - 1 = s.pc := by
  obtain ⟨hready, hbyte⟩ := (step_undef_iff h).1 hundef
  have hfallback := (handlerOf_fetch_eq_fallback_iff s).2 hbyte
  obtain ⟨hbusy, -⟩ | ⟨-, rfl⟩ := step_cases h
  · omega
  · rw [finishAt_mem, finishAt_pc, effect_of_fallback hfallback]
    exact ⟨rfl, nextPc_sub_one_of_fallback hfallback s⟩

/-! ## The fault reading -/

/-- A checked tick is the tick, unless the tick leaves UD set (48_undefined_opcode.md R140). -/
theorem checkedStep_of_step {s t : State} (h : step s = .next t) :
    checkedStep s = if t.ud then .fault .undefinedOpcode else .next t := by
  rw [checkedStep, h]
  rfl

end Sys2Proof.Machine

/-! ## The statements -/

namespace Sys2Proof.Proofs

open Sys2Proof.Machine

/-- Settles O19, one part of the event at a time. -/
theorem undefinedOpcodeEventExactly : Obligations.UndefinedOpcodeEventExactly := by
  intro s t h
  refine ⟨step_undef_iff h, step_ud_iff h, fun hundef => ?_⟩
  obtain ⟨hmem, hpc⟩ := step_mem_pc_of_undef h hundef
  exact ⟨by rw [State.read1_congr hmem, hpc], hpc⟩

/-- Settles O20: the checked tick looks at the UD that the tick leaves, and no tick clears UD. -/
theorem checkedStepFaultsOnceLatched : Obligations.CheckedStepFaultsOnceLatched := by
  intro s
  obtain ⟨t, ht⟩ := exists_step_eq_next s
  refine ⟨⟨t, ht, checkedStep_of_step ht⟩, fun hfaulted => ?_⟩
  rw [checkedStep_of_step ht, (step_inertKept ht).ud hfaulted, if_pos rfl]

/-- Settles O55: an instruction without a handler raises the event and does nothing else. -/
theorem undefinedOpcodeFallback : Obligations.UndefinedOpcodeFallback := by
  intro i s h
  have hfallback := (handlerOf_fallback i).2 h
  obtain ⟨hlen, hcost⟩ := lenOf_cyclesOf_of_fallback hfallback
  have hexec := exec_of_fallback hfallback s
  exact ⟨encode_of_fallback hfallback, _, hexec, rfl, rfl, rfl, rfl, rfl, State.read1_congr rfl,
    exec_scheduled hexec i.opcode (ne_jmp_of_fallback hfallback) rfl hlen hcost⟩

end Sys2Proof.Proofs

/-! PROOFS. Reset (70_reset_and_hazards.md R170 to R172): that every move and every sequence of moves of the host completes, and
the statements. -/

namespace Sys2Proof.Machine

/-- Every move of the host completes: the tick is total, and the others are updates. -/
theorem exists_hostStep_eq_next (act : HostAction) (s : State) : ∃ t, hostStep act s = .next t := by
  cases act with
  | tick => exact exists_step_eq_next s
  | _ => exact ⟨_, rfl⟩

theorem hostRun_cons {act : HostAction} {s t : State} (h : hostStep act s = .next t) (rest : List HostAction) :
    hostRun (act :: rest) s = hostRun rest t := by
  rw [hostRun, h]

theorem exists_hostRun_eq_next (acts : List HostAction) (s : State) : ∃ t, hostRun acts s = .next t := by
  induction acts generalizing s with
  | nil => exact ⟨s, rfl⟩
  | cons act rest ih =>
    obtain ⟨t, ht⟩ := exists_hostStep_eq_next act s
    rw [hostRun_cons ht]
    exact ih t

/-- The moves `acts`, then the moves `more` from where those lead. -/
theorem hostRun_append {acts : List HostAction} {s t : State} (h : hostRun acts s = .next t) (more : List HostAction) :
    hostRun (acts ++ more) s = hostRun more t := by
  induction acts generalizing s with
  | nil =>
    injection h with h
    rw [List.nil_append, h]
  | cons act rest ih =>
    obtain ⟨u, hu⟩ := exists_hostStep_eq_next act s
    rw [hostRun_cons hu] at h
    rw [List.cons_append, hostRun_cons hu, ih h]

end Sys2Proof.Machine

/-! ## The statements -/

namespace Sys2Proof.Proofs

open Sys2Proof.Machine Sys2Proof.Safety

/-- Settles O1: the moves lead to some state, and the reset that follows keeps of it the memory alone. -/
theorem resetEstablishesInitialState : Obligations.ResetEstablishesInitialState := by
  intro acts p s
  obtain ⟨t, ht⟩ := exists_hostRun_eq_next acts s
  exact ⟨t, hostReset p t, ht, hostRun_append ht [.reset p], hostReset_pc t p, hostReset_f t p, hostReset_cnt t p,
    hostReset_ud t p, hostReset_regs t p, hostReset_sp t p, hostReset_mem t p⟩

/-- Settles O2: a reset gives F, cnt and the outputs values within the invariant, and keeps the memory; `State.reset` is what a
reset with its own registers and SP makes of it. -/
theorem resetMeetsInvariant : Obligations.ResetMeetsInvariant := by
  have hreset (p : ResetParams) (s : State) (hwf : s.mem.wf = true) : Inv (hostReset p s) :=
    ⟨hwf, by simp, Int.le_refl 0, by simp, nofun⟩
  exact ⟨hreset ⟨State.reset.regs, State.reset.sp⟩ State.reset State.reset_mem_wf, hreset⟩

/-- Settles O3: after a reset the counter is 0, so the next tick fetches, and PC is 0. -/
theorem firstTickAfterResetFetchesAtZero : Obligations.FirstTickAfterResetFetchesAtZero :=
  fun p s => step_of_ready (s := hostReset p s) zero_le_one

end Sys2Proof.Proofs

/-! PROOFS. The representation of memory (20_memory.md; log entry 2): that canonical lists which read alike are equal, and the
statements. -/

namespace Sys2Proof.Machine

theorem Memory.wfFrom_cons {lo k : Nat} {v : Byte} {rest : Memory} : Memory.wfFrom lo ((k, v) :: rest) = true ↔
    lo ≤ k ∧ k < Config.memSize ∧ v ≠ Config.unlistedByte ∧ Memory.wfFrom (k + 1) rest = true := by
  simp [Memory.wfFrom, and_assoc]

theorem Memory.read_cons_same (k : Nat) (v : Byte) (rest : Memory) : Memory.read ((k, v) :: rest) k = v := if_pos rfl

theorem Memory.read_cons_other {k a : Nat} (h : k ≠ a) (v : Byte) (rest : Memory) :
    Memory.read ((k, v) :: rest) a = Memory.read rest a := if_neg h

/-- A canonical list of addresses from `lo` on reads as listed from `lo` on. -/
theorem Memory.le_of_read_ne {m : Memory} {lo a : Nat} (h : Memory.wfFrom lo m = true) (hne : m.read a ≠ Config.unlistedByte) :
    lo ≤ a := Nat.le_of_not_lt fun hlt => hne (Memory.read_of_lt h hlt)

/-- A canonical list that reads as unlisted everywhere lists nothing. -/
theorem Memory.eq_nil_of_read_eq {m : Memory} {lo : Nat} (h : Memory.wfFrom lo m = true)
    (hread : ∀ a < Config.memSize, m.read a = Config.unlistedByte) : m = [] := by
  cases m with
  | nil => rfl
  | cons c rest =>
    obtain ⟨-, hk, hv, -⟩ := Memory.wfFrom_cons.1 h
    exact absurd ((Memory.read_cons_same _ _ rest).symm.trans (hread c.1 hk)) hv

/-- Of two canonical lists, the second begins no later than an address that the first one begins with and both read alike. -/
theorem Memory.head_le_of_read_eq {lo lo' k k' : Nat} {v v' : Byte} {rest rest' : Memory}
    (h : Memory.wfFrom lo ((k, v) :: rest) = true) (h' : Memory.wfFrom lo' ((k', v') :: rest') = true)
    (hread : Memory.read ((k', v') :: rest') k = Memory.read ((k, v) :: rest) k) : k' ≤ k := by
  obtain ⟨-, -, hv, -⟩ := Memory.wfFrom_cons.1 h
  obtain ⟨-, hparts'⟩ := Memory.wfFrom_cons.1 h'
  refine Memory.le_of_read_ne (Memory.wfFrom_cons.2 ⟨Nat.le_refl k', hparts'⟩) ?_
  rwa [hread, Memory.read_cons_same]

/-- Canonical lists that read alike at every address are equal: they begin with the same cell, and after it read alike again. -/
theorem Memory.eq_of_read_eq {m m' : Memory} {lo : Nat} (h : Memory.wfFrom lo m = true) (h' : Memory.wfFrom lo m' = true)
    (hread : ∀ a < Config.memSize, m'.read a = m.read a) : m' = m := by
  induction m generalizing m' lo with
  | nil => exact Memory.eq_nil_of_read_eq h' hread
  | cons c rest ih =>
    cases m' with
    | nil => exact (Memory.eq_nil_of_read_eq h fun a ha => (hread a ha).symm).symm
    | cons c' rest' =>
      obtain ⟨k, v⟩ := c
      obtain ⟨k', v'⟩ := c'
      obtain ⟨-, hk, -, hrest⟩ := Memory.wfFrom_cons.1 h
      obtain ⟨-, hk', -, hrest'⟩ := Memory.wfFrom_cons.1 h'
      obtain rfl : k' = k := Nat.le_antisymm (Memory.head_le_of_read_eq h h' (hread k hk))
        (Memory.head_le_of_read_eq h' h (hread k' hk').symm)
      have hv : v' = v := by simpa only [Memory.read_cons_same] using hread k' hk
      have htail : rest' = rest := by
        refine ih hrest hrest' fun a ha => ?_
        by_cases hlt : a < k' + 1
        · rw [Memory.read_of_lt hrest' hlt, Memory.read_of_lt hrest hlt]
        · have hne : k' ≠ a := by omega
          simpa only [Memory.read_cons_other hne] using hread a ha
      rw [hv, htail]

end Sys2Proof.Machine

/-! ## The statements -/

namespace Sys2Proof.Proofs

open Sys2Proof.Machine

/-- Settles O23: an address below the size of memory is the integer of a 16-bit one, so the two lists read alike. -/
theorem canonicalMemoriesAreExtensional : Obligations.CanonicalMemoriesAreExtensional := by
  intro s t hs ht hread
  refine Memory.eq_of_read_eq hs ht fun a ha => ?_
  have haddr : (BitVec.ofNat 16 a).toNat = a := Nat.mod_eq_of_lt ha
  simpa only [State.read1, haddr] using hread (BitVec.ofNat 16 a)

/-- Settles O22: each write is one or two writes of a byte, which keep the form. -/
theorem writesKeepMemoryCanonical : Obligations.WritesKeepMemoryCanonical :=
  fun _ a v w hwf => ⟨State.write1_wf a v hwf, State.write2_wf a w hwf, State.write1_wf a v hwf⟩

end Sys2Proof.Proofs

/-! PROOFS. The decimal adjust (42_arithmetic.md R97): the default DAA_FN on integers, and the statement. -/

namespace Sys2Proof.Machine

/-- The accumulator after the low correction, as an integer: the carry out of bit 7 is dropped. -/
theorem daaLow_toNat (a : Byte) (ac : Bool) :
    (daaLow a ac).toNat = if decide (9 < a.toNat % 16) || ac then (a.toNat + 6) % 256 else a.toNat :=
  apply_ite BitVec.toNat (daaLowRuns a ac = true) (a + 0x06) a

/-- The default DAA_FN on integers, where `a1` is the accumulator after the low correction. -/
theorem daaFn_eq {a : Byte} {ac : Bool} {a1 : Nat} (hlow : (daaLow a ac).toNat = a1) (cy : Bool) :
    daaFn a ac cy =
      { a := BitVec.ofNat 8 (if decide (9 < a1 / 16) || cy then (a1 + 0x60) % 256 else a1)
        ac := (decide (9 < a.toNat % 16) || ac) && decide (15 < a.toNat % 16 + 6)
        cy := cy || ((decide (9 < a1 / 16) || cy) && decide (255 < a1 + 0x60)) } := by
  subst hlow
  have hres : (if daaHighRuns (daaLow a ac) cy then daaLow a ac + 0x60 else daaLow a ac) =
      BitVec.ofNat 8 (if daaHighRuns (daaLow a ac) cy then ((daaLow a ac).toNat + 0x60) % 256 else (daaLow a ac).toNat) := by
    split <;> exact BitVec.eq_of_toNat_eq (by simp)
  rw [daaFn, hres]
  rfl

end Sys2Proof.Machine

/-! ## The statement -/

namespace Sys2Proof.Proofs

open Sys2Proof.Machine Sys2Proof.Safety

/-- Settles O44: the handler accumulates what the default DAA_FN gives for A, AC and CY. -/
theorem daaAdjustsAccumulator : Obligations.DaaAdjustsAccumulator := by
  intro s
  have hadjust := adjustWith_eq (daaFn_eq (daaLow_toNat s.regs.a (s.f.getLsbD 4)) (carryFlag s))
  exact ⟨rfl, completesAlu_of_effect 0x27 hadjust nofun nofun rfl rfl rfl⟩

end Sys2Proof.Proofs
